-- ==== Sys2Proof/Word.lean ====
section
/-! DEFINITION. The word types of the block: host registers are 32 bits wide (R32), object fields mostly 16 (R13,
R40..R47), queue elements and identifiers bytes (R13, R101), ADC readings 10 bits (R13). -/

namespace Sys2Proof

/-- A host register, a system register or an alarm count (R32, R39, R44). -/
abbrev Word := BitVec 32

/-- A 16-bit field: cursors, periods, durations, callback words (R40..R47, R23). -/
abbrev Half := BitVec 16

/-- A byte of QMEM or of a serial line, or an 8-bit identifier (R100, R36, R101). -/
abbrev Byte := BitVec 8

/-- A 10-bit ADC value (R13, R46). -/
abbrev Sample := BitVec 10

/-- The 15-bit TAG of a callback word, the caller's opaque context (R23). -/
abbrev Tag := BitVec 15

end Sys2Proof
end

