-- ==== Sys2Proof/Syntax.lean ====
section
/-! DEFINITION. The commands of the block, one constructor for each row of spec/opcode_table.json (30_encoding.md R145).
A constructor carries the operands of the command word (ID and IMM); operands in ARG0..ARG3 are read from the state when
the command executes (R142). Bits a command does not read are no part of it (R150). -/

namespace Sys2Proof

/-- Timer mode (R44): 0 interval, 1 timeout. Operand of TMR_SET_MODE. -/
inductive TimerMode where
  | interval
  | timeout
  deriving DecidableEq, Repr

/-- The 63 commands. Operand names: `q` queue, `p` port, `i` timer, switch or analog channel, `g` generator, `sel` field
selector, `b` byte, `cbw` callback word. -/
inductive Instr where
  -- dispatcher, clock and system (46_dispatcher.md)
  | nop
  | dspConsume
  | dspPass
  | dspRun
  | sysRdf (sel : Byte)
  | clkGet
  | clkSet
  -- ring queues and QMEM (40_ring_queue.md)
  | qInit (q : Byte)
  | qPut (q : Byte) (b : Byte)
  | qGet (q : Byte)
  | qSpace (q : Byte)
  | qReset (q : Byte)
  | qRdf (q : Byte) (sel : Byte)
  | qmRd
  | qmWr (b : Byte)
  -- serial ports (41_serial.md)
  | serAttachByte (p : Byte) (cbw : Half)
  | serAttachLine (p : Byte) (cbw : Half)
  | serDetachByte (p : Byte)
  | serDetachLine (p : Byte)
  | serWrite (p : Byte) (b : Byte)
  | serWriteSync (p : Byte) (b : Byte)
  | serRead (p : Byte)
  | serReadSync (p : Byte)
  | serRdf (p : Byte) (sel : Byte)
  | serAdvance
  -- timers (42_timer.md)
  | tmrCreateInterval (i : Byte) (period : Half)
  | tmrCreateTimeout (i : Byte) (period : Half)
  | tmrStart (i : Byte)
  | tmrStop (i : Byte)
  | tmrPause (i : Byte)
  | tmrResume (i : Byte)
  | tmrDelete (i : Byte)
  | tmrSetPeriod (i : Byte) (period : Half)
  | tmrSetMode (i : Byte) (mode : TimerMode)
  | tmrSetCallback (i : Byte) (cbw : Half)
  | tmrRdf (i : Byte) (sel : Byte)
  | tmrAdvance
  -- switches (43_switch.md)
  | swCreateDigital (i : Byte) (cbw : Half)
  | swCreateAnalog (i : Byte) (cbw : Half)
  | swDelete (i : Byte)
  | swSetCallback (i : Byte) (cbw : Half)
  | swRdf (i : Byte) (sel : Byte)
  | swAdvance
  -- analog channels (44_analog.md)
  | adcCreate (i : Byte)
  | adcDelete (i : Byte)
  | adcSetCallbacks (i : Byte)
  | adcRdf (i : Byte) (sel : Byte)
  | adcAdvance
  -- pulse generators (45_pdsgen.md)
  | pdsCreateLow (g : Byte)
  | pdsCreateHigh (g : Byte)
  | pdsCreateIdle (g : Byte)
  | pdsCreateOneshot (g : Byte)
  | pdsCreateRepeat (g : Byte)
  | pdsCreateContinuous (g : Byte)
  | pdsCreatePwm (g : Byte)
  | pdsSync (dst : Byte) (src : Byte)
  | pdsSyncAll (g : Byte)
  | pdsRestart (g : Byte)
  | pdsStop (g : Byte)
  | pdsDelete (g : Byte)
  | pdsSetInvert (g : Byte) (inv : Bool)
  | pdsRdf (g : Byte) (sel : Byte)
  | pdsAdvance
  deriving DecidableEq, Repr

end Sys2Proof
end

