-- ==== Sys2Proof/Decode.lean ====
section
/-! DEFINITION. The decoder of the command word of format C (30_encoding.md R140, R141, R145), total on every word, and
after it the encoder, written from the same table. A reserved OPC is refused by name (R147, R148). -/

namespace Sys2Proof

/-- Why a command word is no command. -/
inductive DecodeError where
  /-- The OPC is in the reserved list of R147. -/
  | reservedOpcode (opc : Byte)
  deriving DecidableEq, Repr

/-- OPC, bits 31:24 of the command word (R141). -/
def opcOf (w : Word) : Byte := w.extractLsb' 24 8

/-- ID, bits 23:16 of the command word (R141). -/
def idOf (w : Word) : Byte := w.extractLsb' 16 8

/-- IMM, bits 15:0 of the command word (R141). -/
def immOf (w : Word) : Half := w.extractLsb' 0 16

/-- IMM[7:0]: a byte, a field selector or a source id; IMM[15:8] is ignored (R143, R144). -/
def immByte (w : Word) : Byte := w.extractLsb' 0 8

/-- IMM[0]: a flag; IMM[15:1] is ignored (R145, R150). -/
def immFlag (w : Word) : Bool := w.getLsbD 0

/-- IMM[0] as a timer mode: 0 interval, 1 timeout (R309). -/
def modeOf (w : Word) : TimerMode := if immFlag w then .timeout else .interval

/-- The decoder: the command is selected by OPC alone (R145), and an OPC outside the table is reserved (R147). -/
def decode (w : Word) : Except DecodeError Instr :=
  match (opcOf w).toNat with
  | 0x00 => .ok .nop
  | 0x01 => .ok .dspConsume
  | 0x02 => .ok .dspPass
  | 0x03 => .ok .dspRun
  | 0x04 => .ok (.sysRdf (immByte w))
  | 0x05 => .ok .clkGet
  | 0x06 => .ok .clkSet
  | 0x10 => .ok (.qInit (idOf w))
  | 0x11 => .ok (.qPut (idOf w) (immByte w))
  | 0x12 => .ok (.qGet (idOf w))
  | 0x13 => .ok (.qSpace (idOf w))
  | 0x14 => .ok (.qReset (idOf w))
  | 0x15 => .ok (.qRdf (idOf w) (immByte w))
  | 0x16 => .ok .qmRd
  | 0x17 => .ok (.qmWr (immByte w))
  | 0x20 => .ok (.serAttachByte (idOf w) (immOf w))
  | 0x21 => .ok (.serAttachLine (idOf w) (immOf w))
  | 0x22 => .ok (.serDetachByte (idOf w))
  | 0x23 => .ok (.serDetachLine (idOf w))
  | 0x24 => .ok (.serWrite (idOf w) (immByte w))
  | 0x25 => .ok (.serWriteSync (idOf w) (immByte w))
  | 0x26 => .ok (.serRead (idOf w))
  | 0x27 => .ok (.serReadSync (idOf w))
  | 0x28 => .ok (.serRdf (idOf w) (immByte w))
  | 0x2F => .ok .serAdvance
  | 0x30 => .ok (.tmrCreateInterval (idOf w) (immOf w))
  | 0x31 => .ok (.tmrCreateTimeout (idOf w) (immOf w))
  | 0x32 => .ok (.tmrStart (idOf w))
  | 0x33 => .ok (.tmrStop (idOf w))
  | 0x34 => .ok (.tmrPause (idOf w))
  | 0x35 => .ok (.tmrResume (idOf w))
  | 0x36 => .ok (.tmrDelete (idOf w))
  | 0x37 => .ok (.tmrSetPeriod (idOf w) (immOf w))
  | 0x38 => .ok (.tmrSetMode (idOf w) (modeOf w))
  | 0x39 => .ok (.tmrSetCallback (idOf w) (immOf w))
  | 0x3A => .ok (.tmrRdf (idOf w) (immByte w))
  | 0x3F => .ok .tmrAdvance
  | 0x40 => .ok (.swCreateDigital (idOf w) (immOf w))
  | 0x41 => .ok (.swCreateAnalog (idOf w) (immOf w))
  | 0x42 => .ok (.swDelete (idOf w))
  | 0x43 => .ok (.swSetCallback (idOf w) (immOf w))
  | 0x44 => .ok (.swRdf (idOf w) (immByte w))
  | 0x4F => .ok .swAdvance
  | 0x50 => .ok (.adcCreate (idOf w))
  | 0x51 => .ok (.adcDelete (idOf w))
  | 0x52 => .ok (.adcSetCallbacks (idOf w))
  | 0x53 => .ok (.adcRdf (idOf w) (immByte w))
  | 0x5F => .ok .adcAdvance
  | 0x60 => .ok (.pdsCreateLow (idOf w))
  | 0x61 => .ok (.pdsCreateHigh (idOf w))
  | 0x62 => .ok (.pdsCreateIdle (idOf w))
  | 0x63 => .ok (.pdsCreateOneshot (idOf w))
  | 0x64 => .ok (.pdsCreateRepeat (idOf w))
  | 0x65 => .ok (.pdsCreateContinuous (idOf w))
  | 0x66 => .ok (.pdsCreatePwm (idOf w))
  | 0x67 => .ok (.pdsSync (idOf w) (immByte w))
  | 0x68 => .ok (.pdsSyncAll (idOf w))
  | 0x69 => .ok (.pdsRestart (idOf w))
  | 0x6A => .ok (.pdsStop (idOf w))
  | 0x6B => .ok (.pdsDelete (idOf w))
  | 0x6C => .ok (.pdsSetInvert (idOf w) (immFlag w))
  | 0x6D => .ok (.pdsRdf (idOf w) (immByte w))
  | 0x6F => .ok .pdsAdvance
  | _ => .error (.reservedOpcode (opcOf w))

/-- The command word {OPC, ID, IMM} (R141, R152). -/
def cmdWord (opc id : Byte) (imm : Half) : Word := opc ++ id ++ imm

/-- A byte as IMM, the ignored half written as zero (R150). -/
def byteImm (b : Byte) : Half := 0#8 ++ b

/-- A flag as IMM, the ignored bits written as zero (R150). -/
def flagImm (f : Bool) : Half := 0#15 ++ BitVec.ofBool f

/-- A timer mode as IMM (R309). -/
def modeImm : TimerMode → Half
  | .interval => flagImm false
  | .timeout => flagImm true

/-- The encoder: the word a host writes to CMD for a command; fields the command does not read are zero (R150, R152). -/
def encode : Instr → Word
  | .nop => cmdWord 0x00 0#8 0#16
  | .dspConsume => cmdWord 0x01 0#8 0#16
  | .dspPass => cmdWord 0x02 0#8 0#16
  | .dspRun => cmdWord 0x03 0#8 0#16
  | .sysRdf sel => cmdWord 0x04 0#8 (byteImm sel)
  | .clkGet => cmdWord 0x05 0#8 0#16
  | .clkSet => cmdWord 0x06 0#8 0#16
  | .qInit q => cmdWord 0x10 q 0#16
  | .qPut q b => cmdWord 0x11 q (byteImm b)
  | .qGet q => cmdWord 0x12 q 0#16
  | .qSpace q => cmdWord 0x13 q 0#16
  | .qReset q => cmdWord 0x14 q 0#16
  | .qRdf q sel => cmdWord 0x15 q (byteImm sel)
  | .qmRd => cmdWord 0x16 0#8 0#16
  | .qmWr b => cmdWord 0x17 0#8 (byteImm b)
  | .serAttachByte p cbw => cmdWord 0x20 p cbw
  | .serAttachLine p cbw => cmdWord 0x21 p cbw
  | .serDetachByte p => cmdWord 0x22 p 0#16
  | .serDetachLine p => cmdWord 0x23 p 0#16
  | .serWrite p b => cmdWord 0x24 p (byteImm b)
  | .serWriteSync p b => cmdWord 0x25 p (byteImm b)
  | .serRead p => cmdWord 0x26 p 0#16
  | .serReadSync p => cmdWord 0x27 p 0#16
  | .serRdf p sel => cmdWord 0x28 p (byteImm sel)
  | .serAdvance => cmdWord 0x2F 0#8 0#16
  | .tmrCreateInterval i period => cmdWord 0x30 i period
  | .tmrCreateTimeout i period => cmdWord 0x31 i period
  | .tmrStart i => cmdWord 0x32 i 0#16
  | .tmrStop i => cmdWord 0x33 i 0#16
  | .tmrPause i => cmdWord 0x34 i 0#16
  | .tmrResume i => cmdWord 0x35 i 0#16
  | .tmrDelete i => cmdWord 0x36 i 0#16
  | .tmrSetPeriod i period => cmdWord 0x37 i period
  | .tmrSetMode i mode => cmdWord 0x38 i (modeImm mode)
  | .tmrSetCallback i cbw => cmdWord 0x39 i cbw
  | .tmrRdf i sel => cmdWord 0x3A i (byteImm sel)
  | .tmrAdvance => cmdWord 0x3F 0#8 0#16
  | .swCreateDigital i cbw => cmdWord 0x40 i cbw
  | .swCreateAnalog i cbw => cmdWord 0x41 i cbw
  | .swDelete i => cmdWord 0x42 i 0#16
  | .swSetCallback i cbw => cmdWord 0x43 i cbw
  | .swRdf i sel => cmdWord 0x44 i (byteImm sel)
  | .swAdvance => cmdWord 0x4F 0#8 0#16
  | .adcCreate i => cmdWord 0x50 i 0#16
  | .adcDelete i => cmdWord 0x51 i 0#16
  | .adcSetCallbacks i => cmdWord 0x52 i 0#16
  | .adcRdf i sel => cmdWord 0x53 i (byteImm sel)
  | .adcAdvance => cmdWord 0x5F 0#8 0#16
  | .pdsCreateLow g => cmdWord 0x60 g 0#16
  | .pdsCreateHigh g => cmdWord 0x61 g 0#16
  | .pdsCreateIdle g => cmdWord 0x62 g 0#16
  | .pdsCreateOneshot g => cmdWord 0x63 g 0#16
  | .pdsCreateRepeat g => cmdWord 0x64 g 0#16
  | .pdsCreateContinuous g => cmdWord 0x65 g 0#16
  | .pdsCreatePwm g => cmdWord 0x66 g 0#16
  | .pdsSync dst src => cmdWord 0x67 dst (byteImm src)
  | .pdsSyncAll g => cmdWord 0x68 g 0#16
  | .pdsRestart g => cmdWord 0x69 g 0#16
  | .pdsStop g => cmdWord 0x6A g 0#16
  | .pdsDelete g => cmdWord 0x6B g 0#16
  | .pdsSetInvert g inv => cmdWord 0x6C g (flagImm inv)
  | .pdsRdf g sel => cmdWord 0x6D g (byteImm sel)
  | .pdsAdvance => cmdWord 0x6F 0#8 0#16

/-- The bits of a command word that a command reads: OPC, and the ID and IMM bits of its row of R145. The others are
ignored (R150). -/
def readMask : Instr → Word
  | .nop | .dspConsume | .dspPass | .dspRun | .clkGet | .clkSet | .qmRd
  | .serAdvance | .tmrAdvance | .swAdvance | .adcAdvance | .pdsAdvance => 0xFF000000
  | .sysRdf _ | .qmWr _ => 0xFF0000FF
  | .qInit _ | .qGet _ | .qSpace _ | .qReset _ | .serDetachByte _ | .serDetachLine _ | .serRead _ | .serReadSync _
  | .tmrStart _ | .tmrStop _ | .tmrPause _ | .tmrResume _ | .tmrDelete _ | .swDelete _
  | .adcCreate _ | .adcDelete _ | .adcSetCallbacks _
  | .pdsCreateLow _ | .pdsCreateHigh _ | .pdsCreateIdle _ | .pdsCreateOneshot _ | .pdsCreateRepeat _
  | .pdsCreateContinuous _ | .pdsCreatePwm _ | .pdsSyncAll _ | .pdsRestart _ | .pdsStop _ | .pdsDelete _ => 0xFFFF0000
  | .qPut _ _ | .qRdf _ _ | .serWrite _ _ | .serWriteSync _ _ | .serRdf _ _ | .tmrRdf _ _ | .swRdf _ _ | .adcRdf _ _
  | .pdsSync _ _ | .pdsRdf _ _ => 0xFFFF00FF
  | .tmrSetMode _ _ | .pdsSetInvert _ _ => 0xFFFF0001
  | .serAttachByte _ _ | .serAttachLine _ _ | .tmrCreateInterval _ _ | .tmrCreateTimeout _ _ | .tmrSetPeriod _ _
  | .tmrSetCallback _ _ | .swCreateDigital _ _ | .swCreateAnalog _ _ | .swSetCallback _ _ => 0xFFFFFFFF

/-- The instruction the decoder reads from an opcode-table word: bit 0 is the least significant bit of the word, CMD is
one 32-bit register, so there is no byte order to lay out (R107). Bits at `nbits` and above are zero. -/
def decodeTableWord (nbits w : Nat) : Option Instr :=
  match decode (BitVec.ofNat 32 (w % 2 ^ nbits)) with
  | .ok i => some i
  | .error _ => none

end Sys2Proof
end

