-- ==== Sys2Proof/Config.lean ====
section
/-! DEFINITION. What an implementation fixes (the named parameters of 00_scope.md R11) and the free values: what the
environment answers to a draw (R21) and what memory that nothing has written holds (R105, U1, U2). A free value is a
constant without a body, so nothing can be proved of the value it takes. -/

namespace Sys2Proof

/-- The eight named parameters of R11. The document gives no value for any of them (D7, OPEN), so the model takes them
as an argument of `Machine.State.resetOf`. -/
structure Params where
  /-- N_TIMER, the number of timers -/
  nTimer : Nat
  /-- N_SWITCH, the number of switches -/
  nSwitch : Nat
  /-- N_ADC, the number of analog channels -/
  nAdc : Nat
  /-- N_PDS, the number of pulse generators -/
  nPds : Nat
  /-- N_PORT, the number of serial ports -/
  nPort : Nat
  /-- N_QUEUE, the number of ring queues -/
  nQueue : Nat
  /-- QMEM_SIZE, the number of bytes of queue buffer RAM -/
  qmemSize : Nat
  /-- LINE_MAX, the largest line-receiver buffer size -/
  lineMax : Nat
  deriving DecidableEq, Repr

/-- The reference configuration RC of R12. -/
def Params.reference : Params :=
  { nTimer := 8, nSwitch := 4, nAdc := 4, nPds := 4, nPort := 1, nQueue := 4, qmemSize := 256, lineMax := 64 }

namespace Config

/-- `PinIn(pin)` (R21, D47): the level the environment answers to the draw of the given number. Free (log 3). -/
opaque pinIn : Nat → Byte → Bool

/-- `AdcIn(ch)` (R21, D47): the reading the environment answers to the draw of the given number. Free (log 3). -/
opaque adcIn : Nat → Byte → Sample

/-- `TxReady(port)` (R21, D47): the answer to the draw of the given number. Free (log 3). -/
opaque txReady : Nat → Byte → Bool

/-- A QMEM byte that no step has written since reset (R105, U1): any value, for each read of it a fresh one, so it
depends on the number of the draw beside the address. Free (log 4). -/
opaque unwrittenQmem : Nat → Nat → Byte

/-- A byte `LB[k]` of the line buffer of a port that nothing has written (R42, U2). Free (log 5). -/
opaque unwrittenLine : Nat → Nat → Byte

end Config

end Sys2Proof
end

