-- ==== Sys2Proof/Machine/State.lean ====
section
/-! DEFINITION. The state of the block as plain data: the host interface registers (R32), the system registers (R39), the
banks of objects (R40..R47), QMEM (R100), OUT (R37), the position of an executing command (R50), and the model's own
fields that say what the agents and the environment do next (notes/assumptions/2.md, 3.md). Enumerated fields are
inductive types, so a value outside the listed set cannot be held (R48); their codes are in Machine/Operands.lean. -/

namespace Sys2Proof.Machine

/-- The result codes of R570. Codes 5, 6 and 7 are never written (U12). -/
inductive ResultCode where
  | ok
  | genericError
  | invalidArgument
  | queueEmpty
  | queueFull
  deriving DecidableEq, Repr

/-- A ring queue Q[q] (R40). -/
structure Queue where
  /-- capacity in bytes; 0 = not initialised -/
  cap : Half
  /-- bytes held -/
  count : Half
  /-- index of the next slot to write -/
  put : Half
  /-- index of the next slot to read -/
  get : Half
  /-- result code of the last host put or get on this queue (R204) -/
  lerr : ResultCode
  /-- first QMEM address of the buffer -/
  base : Half
  deriving DecidableEq, Repr

/-- The line receiver's state (R42, R281): 0 idle, 1 accumulating. -/
inductive LineState where
  | idle
  | accumulating
  deriving DecidableEq, Repr

/-- A serial port S[p] (R42). -/
structure Port where
  /-- byte receiver attached -/
  be : Bool
  /-- byte receiver callback word -/
  bcb : Half
  /-- line receiver attached -/
  le : Bool
  /-- line receiver callback word -/
  lcb : Half
  /-- line buffer size in bytes -/
  lsize : Half
  /-- line terminator byte -/
  term : Byte
  /-- bytes held in the partial line -/
  llen : Half
  lstate : LineState
  /-- the line buffer LB, listed where written; an unlisted byte is unspecified (U2) -/
  lb : List Host.Cell
  deriving DecidableEq, Repr

/-- Timer state (R44): 0 deleted, 1 running, 2 paused, 3 stopped. -/
inductive TimerState where
  | deleted
  | running
  | paused
  | stopped
  deriving DecidableEq, Repr

/-- A timer T[i] (R44). -/
structure Timer where
  state : TimerState
  mode : TimerMode
  /-- elapsed ticks -/
  ticks : Half
  /-- period -/
  reload : Half
  /-- alarm count, wraps mod 2^32 -/
  alarm : Word
  /-- callback word -/
  cb : Half
  deriving DecidableEq, Repr

/-- Switch mode (R45): 0 digital, 1 analog. -/
inductive SwitchMode where
  | digital
  | analog
  deriving DecidableEq, Repr

/-- Switch state (R45, R48): 0 off, 1 on, 2 hold, 3 repeat. -/
inductive SwitchState where
  | off
  | on
  | hold
  | repeating
  deriving DecidableEq, Repr

/-- A switch SW[i] (R45, R350). -/
structure Switch where
  valid : Bool
  mode : SwitchMode
  /-- digital: pin id; analog: index into the analog channels -/
  src : Byte
  /-- digital: the pin level that means pressed -/
  onLevel : Bool
  /-- analog: the raw value that means pressed -/
  onValue : Sample
  /-- analog: tolerance around onValue -/
  tol : Sample
  state : SwitchState
  /-- ticks of the current timing window -/
  cnt : Half
  /-- ticks of the release window -/
  rcnt : Half
  /-- D, debounce interval -/
  debounce : Half
  /-- H, hold interval; 0 = no hold -/
  hold : Half
  /-- R, repeat interval; 0 = no repeat -/
  rep : Half
  /-- last sample: the pin level or the raw value -/
  data : Sample
  /-- callback word -/
  cb : Half
  deriving DecidableEq, Repr

/-- An analog channel A[i] (R46). -/
structure Channel where
  /-- enabled -/
  en : Bool
  /-- at least one sample taken since create -/
  primed : Bool
  /-- ADC channel id passed to AdcIn -/
  ch : Byte
  /-- output shift -/
  shift : BitVec 4
  /-- latest raw value -/
  raw : Sample
  /-- smallest output value since create -/
  min : Sample
  /-- largest output value since create -/
  max : Sample
  /-- previous (last reported) output value -/
  prev : Sample
  /-- last computed difference of output value and prev, signed -/
  delta : BitVec 11
  /-- change threshold -/
  thr : Half
  /-- event-suppression interval -/
  evi : Half
  /-- event-suppression counter, saturating -/
  evc : Half
  /-- sampling interval; 0 = no sampling callback -/
  si : Half
  /-- sampling counter -/
  scnt : Half
  /-- change callback word -/
  ccb : Half
  /-- sampling callback word -/
  scb : Half
  deriving DecidableEq, Repr

/-- Generator mode (R47): 0 low, 1 high, 2 idle, 3 oneshot, 4 repeat, 5 continuous. -/
inductive PulseMode where
  | low
  | high
  | idle
  | oneshot
  | repeating
  | continuous
  deriving DecidableEq, Repr

/-- Generator state (R47): 0 deleted, 1 running, 2 completed. -/
inductive PulseState where
  | deleted
  | running
  | completed
  deriving DecidableEq, Repr

/-- Generator stage (R47, R451): 0 head, 1 active, 2 tail, 3 none. -/
inductive Stage where
  | head
  | active
  | tail
  | noStage
  deriving DecidableEq, Repr

/-- A pulse generator P[g] (R47). -/
structure Pulse where
  mode : PulseMode
  state : PulseState
  /-- target pin id -/
  pin : Byte
  /-- invert flag -/
  inv : Bool
  /-- the last level this generator set on its pin -/
  out : Bool
  /-- H, head duration in ticks -/
  head : Half
  /-- A, active duration in ticks -/
  act : Half
  /-- T, total (period) in ticks -/
  total : Half
  /-- C, configured cycles -/
  cycles : Half
  /-- remaining cycles -/
  rem : Half
  /-- p, ticks elapsed since cycle start -/
  phase : Half
  stage : Stage
  deriving DecidableEq, Repr

/-- A record of the output stream OUT (R37). -/
inductive Record where
  | tmrAlarm (id : Byte) (tag : Tag) (alarm : Word)
  | swEvent (id : Byte) (tag : Tag) (state : SwitchState)
  | adcChange (id : Byte) (tag : Tag) (value : Sample) (delta : BitVec 11)
  | adcSample (id : Byte) (tag : Tag) (value : Sample)
  | serByte (port : Byte) (tag : Tag) (byte : Byte)
  | serLine (port : Byte) (tag : Tag) (len : Half) (bytes : List Byte)
  | pinSet (pin : Byte) (level : Bool)
  | txByte (port : Byte) (byte : Byte)
  deriving DecidableEq, Repr

/-- The five passes of a dispatch round (R523). -/
inductive Pass where
  | timer
  | switch
  | analog
  | pulse
  | serial
  deriving DecidableEq, Repr

/-- The position of an executing command (R50, R527). BUSY is 1 exactly while there is one (R35). -/
inductive Active where
  /-- DSP_PASS: the pass to run next, or only the finish left -/
  | dspPass (next : Option Pass)
  /-- DSP_RUN that consumed `n` ticks: the rounds left, counting the current one, and the pass to run next -/
  | dspRun (n : Word) (left : Nat) (next : Pass)
  /-- SER_WRITE_SYNC waiting for TxReady(p) with byte `b` (R266) -/
  | serWriteSync (p : Byte) (b : Byte)
  /-- SER_READ_SYNC waiting for a byte in Q[2p] (R268) -/
  | serReadSync (p : Byte)
  deriving DecidableEq, Repr

/-- The width of a host register access (R108). -/
inductive AccessWidth where
  | byte
  | half
  | word
  deriving DecidableEq, Repr

/-- One move of an agent or of the environment. The order of the list `State.inputs` is the total order of the steps
(R111); the spec leaves it to the run (R580, R581, R583, U17, U18). -/
inductive Input where
  /-- the host writes `v` at byte offset `off` (R32, R106) -/
  | write (off : Word) (width : AccessWidth) (v : Word)
  /-- the host reads at byte offset `off` -/
  | read (off : Word) (width : AccessWidth)
  /-- a TICK event (R520) -/
  | tick
  /-- an RX(p, b) event (R210) -/
  | rx (p : Byte) (b : Byte)
  /-- the environment announces the answers to the next draws of PinIn(pin) (R153 `@PIN`) -/
  | pin (pin : Byte) (levels : List Bool)
  /-- the environment announces the answers to the next draws of AdcIn(ch) (R153 `@ADC`) -/
  | adc (ch : Byte) (values : List Sample)
  /-- the environment announces the answers to the next draws of TxReady(port) (R153 `@TXREADY`) -/
  | txReady (port : Byte) (answers : List Bool)
  /-- an external reset (R620, R621) -/
  | reset
  /-- the executing command takes its next sub-step (R527) -/
  | run
  /-- the host polls BUSY until it reads 0 (R153 `WAIT`): sub-steps are taken until the command has ended -/
  | wait
  deriving DecidableEq, Repr

/-- The environment's side of the draws of R21 (notes/assumptions/3.md). A table entry lists announced answers: they are
given in order, the last one again and again. Without an entry the answer is free. -/
structure Env where
  pins : List (Nat × List Bool)
  adcs : List (Nat × List Sample)
  txs : List (Nat × List Bool)
  /-- how many draws have been made -/
  draws : Nat
  deriving DecidableEq, Repr

/-- The state of the block (R30) and the model's own fields. -/
structure State where
  /-- CMD: the last command word accepted; it reads 0 (R32) -/
  cmd : Word
  arg0 : Word
  arg1 : Word
  arg2 : Word
  arg3 : Word
  /-- RES: result code of the last completed command (R34) -/
  res : ResultCode
  /-- RDATA (R34) -/
  rdata : Word
  /-- the executing command; BUSY is 1 exactly when there is one (R35, R50) -/
  active : Option Active
  /-- TICK (R39, R520) -/
  tick : Word
  /-- CONSUMED (R39, R524) -/
  consumed : Word
  /-- CLK_BASE (R39, R531) -/
  clkBase : Word
  /-- CLK_REF (R39, R531) -/
  clkRef : Word
  /-- Q[0..N_QUEUE-1] -/
  queues : List Queue
  /-- S[0..N_PORT-1] -/
  ports : List Port
  /-- T[0..N_TIMER-1] -/
  timers : List Timer
  /-- SW[0..N_SWITCH-1] -/
  switches : List Switch
  /-- A[0..N_ADC-1] -/
  channels : List Channel
  /-- P[0..N_PDS-1] -/
  pulses : List Pulse
  /-- QMEM, listed where written since reset (R100, R105) -/
  qmem : List Host.Cell
  /-- OUT, oldest record first (R37) -/
  out : List Record
  /-- QMEM_SIZE, a parameter (R11) -/
  qmemSize : Nat
  /-- LINE_MAX, a parameter (R11) -/
  lineMax : Nat
  /-- the model's own: what the agents and the environment do next, in order -/
  inputs : List Input
  /-- the model's own: the answers to draws -/
  env : Env
  /-- the model's own: the word the host's last register read returned -/
  hostData : Word
  deriving DecidableEq, Repr

/-- Why the machine stops. -/
inductive Fault where
  /-- Raised by a host register access that is not 32 bits wide or not at a multiple of 4: the host has no step for it
  (R108, U9) and the access is not performed. Safe: the spec gives the access no effect. -/
  | hostAccess (off : Word) (width : AccessWidth)
  deriving DecidableEq, Repr

/-- Why an instruction has no meaning. -/
inductive Refusal where
  /-- Raised by `exec` alone, for a command the model gives no meaning to; no arm does so now. Safe. -/
  | notModelled (mnemonic : String)
  deriving DecidableEq, Repr

/-- Reset value of a queue (R40): uninitialised. -/
def Queue.reset : Queue := { cap := 0, count := 0, put := 0, get := 0, lerr := .ok, base := 0 }

/-- Reset value of a serial port (R42): no receiver attached; LB is unspecified, so nothing is listed. -/
def Port.reset : Port :=
  { be := false, bcb := 0, le := false, lcb := 0, lsize := 0, term := 0, llen := 0, lstate := .idle, lb := [] }

/-- Reset value of a timer (R44): deleted. -/
def Timer.reset : Timer := { state := .deleted, mode := .interval, ticks := 0, reload := 0, alarm := 0, cb := 0 }

/-- Reset value of a switch (R45): invalid. -/
def Switch.reset : Switch :=
  { valid := false, mode := .digital, src := 0, onLevel := false, onValue := 0, tol := 0, state := .off, cnt := 0,
    rcnt := 0, debounce := 0, hold := 0, rep := 0, data := 0, cb := 0 }

/-- Reset value of an analog channel (R46): disabled. -/
def Channel.reset : Channel :=
  { en := false, primed := false, ch := 0, shift := 0, raw := 0, min := 0, max := 0, prev := 0, delta := 0, thr := 0,
    evi := 0, evc := 0, si := 0, scnt := 0, ccb := 0, scb := 0 }

/-- Reset value of a generator (R47): deleted, stage none. -/
def Pulse.reset : Pulse :=
  { mode := .low, state := .deleted, pin := 0, inv := false, out := false, head := 0, act := 0, total := 0, cycles := 0,
    rem := 0, phase := 0, stage := .noStage }

/-- The environment before it has announced or answered anything. -/
def Env.reset : Env := { pins := [], adcs := [], txs := [], draws := 0 }

/-- The block right after reset with the parameters `c` (R53, R54, R620, R622): every register and field at the reset
value of its table, QMEM and LB unspecified, OUT empty, no command executing. The fields of the model's own
(`inputs`, `env`, `hostData`) start empty. -/
def State.resetOf (c : Params) : State :=
  { cmd := 0, arg0 := 0, arg1 := 0, arg2 := 0, arg3 := 0, res := .ok, rdata := 0, active := none
    tick := 0, consumed := 0, clkBase := 0, clkRef := 0
    queues := List.replicate c.nQueue Queue.reset
    ports := List.replicate c.nPort Port.reset
    timers := List.replicate c.nTimer Timer.reset
    switches := List.replicate c.nSwitch Switch.reset
    channels := List.replicate c.nAdc Channel.reset
    pulses := List.replicate c.nPds Pulse.reset
    qmem := [], out := [], qmemSize := c.qmemSize, lineMax := c.lineMax
    inputs := [], env := Env.reset, hostData := 0 }

/-- The machine right after reset, in the reference configuration RC of R12 (notes/assumptions/1.md). -/
def State.reset : State := State.resetOf Params.reference

/-- The parameters of the block a state belongs to (R11): a bank's count is its length. -/
def State.params (s : State) : Params :=
  { nTimer := s.timers.length, nSwitch := s.switches.length, nAdc := s.channels.length, nPds := s.pulses.length
    nPort := s.ports.length, nQueue := s.queues.length, qmemSize := s.qmemSize, lineMax := s.lineMax }

end Sys2Proof.Machine
end

