-- ==== Sys2Proof/Machine/Memory.lean ====
section
/-! DEFINITION. Sparse tables with natural-number keys in one canonical form (keys strictly rising): the representation
of QMEM (R100), of a port's line buffer (R42) and of the announced answers to draws. A key that is not listed has no
known value, so no listed entry can equal what an unlisted one reads as. -/

namespace Sys2Proof.Machine

/-- The value listed at a key, if any. -/
def Table.lookup {α : Type} (k : Nat) : List (Nat × α) → Option α
  | [] => none
  | (a, v) :: t => if a = k then some v else Table.lookup k t

/-- List a value at a key, replacing what was listed there. -/
def Table.insert {α : Type} (k : Nat) (v : α) : List (Nat × α) → List (Nat × α)
  | [] => [(k, v)]
  | (a, w) :: t =>
    if k < a then (k, v) :: (a, w) :: t
    else if k = a then (k, v) :: t
    else (a, w) :: Table.insert k v t

/-- The canonical form: keys strictly rising. -/
def Table.wf {α : Type} : List (Nat × α) → Bool
  | [] => true
  | [_] => true
  | (a, _) :: (b, w) :: t => decide (a < b) && Table.wf ((b, w) :: t)

/-- A memory is in canonical form: addresses strictly rising. An unlisted byte has no known value, so no entry is equal
to what an unlisted address reads as. -/
def Memory.wf (m : List Host.Cell) : Bool := Table.wf m

end Sys2Proof.Machine
end

