-- ==== Sys2Proof/Machine/Flags.lean ====
section
/-! DEFINITION. The status indications of the block. It has no condition codes (R51); its status is RES, the last error
of a queue, and BUSY. Every command ends in `raise` or `finish` (R19, R34). -/

namespace Sys2Proof.Machine

/-- The numeric value of a result code, in RES[2:0] and in Q[q].lerr (R570). -/
def ResultCode.code : ResultCode → BitVec 3
  | .ok => 0
  | .genericError => 1
  | .invalidArgument => 2
  | .queueEmpty => 3
  | .queueFull => 4

/-- `finish <Code>` (R19): RES is written after the command's other writes; BUSY falls with it (R35). -/
def finish (c : ResultCode) (s : State) : State := { s with res := c, active := none }

/-- `raise <Code>` (R19, R572): applied to the state before the command, it writes RES and nothing else; BUSY is 0
after it (R35). -/
def raise (c : ResultCode) (s : State) : State := { s with res := c, active := none }

/-- A command that returns data writes RDATA and finishes Ok (R34). -/
def finishData (v : Word) (s : State) : State := finish .ok { s with rdata := v }

/-- A field-read command: the value is written to RDATA, an unlisted selector raises InvalidArgument (R49, R149). -/
def finishField (v : Option Word) (s : State) : State :=
  match v with
  | some w => finishData w s
  | none => raise .invalidArgument s

/-- BUSY[0] (R35): a command is executing. -/
def busy (s : State) : Bool := s.active.isSome

/-- Records a firing callback emits (R23): one record with the TAG of the callback word when its EN bit is 1, none
otherwise. -/
def fire (cb : Half) (mk : Tag → Record) : List Record :=
  if cb.getLsbD 15 then [mk (cb.extractLsb' 0 15)] else []

end Sys2Proof.Machine
end

