-- ==== Sys2Proof/Machine/Operands.lean ====
section
/-! DEFINITION. Operand forms: the packings of ARG0..ARG3 (30_encoding.md R144, R145), the codes of enumerated fields
(R44..R48), and the field-read views of each bank (R49). -/

namespace Sys2Proof.Machine

/-! ### Fields of the operand registers -/

/-- Bits 15:0 of an operand register: base, length, address, size, cbw, head, total, debounce, repeat (R144, R145). -/
def lowHalf (w : Word) : Half := w.extractLsb' 0 16

/-- Bits 31:16 of an operand register: active, cycles or shift, hold, evi, scb (R144, R145). -/
def highHalf (w : Word) : Half := w.extractLsb' 16 16

/-- Bits 7:0: pin id, analog channel index, ADC channel id (R144, R145). -/
def lowByte (w : Word) : Byte := w.extractLsb' 0 8

/-- Bit 8: the invert flag of `pdspin`, the on_level of SW_CREATE_DIGITAL (R144, R145). -/
def bit8 (w : Word) : Bool := w.getLsbD 8

/-- ARG0[23:16], the line terminator of SER_ATTACH_LINE (R253). -/
def termOf (w : Word) : Byte := w.extractLsb' 16 8

/-- ARG0[17:8], the on_value of SW_CREATE_ANALOG (R353). -/
def onValueOf (w : Word) : Sample := w.extractLsb' 8 10

/-- ARG0[27:18], the tolerance of SW_CREATE_ANALOG (R353). -/
def tolOf (w : Word) : Sample := w.extractLsb' 18 10

/-- ARG0[11:8], the output shift of ADC_CREATE (R402). -/
def shiftOf (w : Word) : BitVec 4 := w.extractLsb' 8 4

/-- `clk` [9:0], milliseconds (R144). -/
def clkMs (w : Word) : Nat := (w.extractLsb' 0 10).toNat

/-- `clk` [15:10], seconds (R144). -/
def clkSec (w : Word) : Nat := (w.extractLsb' 10 6).toNat

/-- `clk` [21:16], minutes (R144). -/
def clkMin (w : Word) : Nat := (w.extractLsb' 16 6).toNat

/-- `clk` [26:22], hours (R144). -/
def clkHour (w : Word) : Nat := (w.extractLsb' 22 5).toNat

/-- The packed clock `(h << 22) | (m << 16) | (s << 10) | ms` (R532, R144). -/
def clkPack (h m sec ms : Nat) : Word :=
  (BitVec.ofNat 32 h <<< 22) ||| (BitVec.ofNat 32 m <<< 16) ||| (BitVec.ofNat 32 sec <<< 10) ||| BitVec.ofNat 32 ms

/-! ### Codes of enumerated fields -/

/-- R42: 0 idle, 1 accumulating. -/
def LineState.code : LineState → BitVec 1
  | .idle => 0
  | .accumulating => 1

/-- R44: 0 deleted, 1 running, 2 paused, 3 stopped. -/
def TimerState.code : TimerState → BitVec 2
  | .deleted => 0
  | .running => 1
  | .paused => 2
  | .stopped => 3

/-- R44: 0 interval, 1 timeout. -/
def timerModeCode : TimerMode → BitVec 1
  | .interval => 0
  | .timeout => 1

/-- R45: 0 digital, 1 analog. -/
def SwitchMode.code : SwitchMode → BitVec 1
  | .digital => 0
  | .analog => 1

/-- R45, R48: 0 off, 1 on, 2 hold, 3 repeat. -/
def SwitchState.code : SwitchState → BitVec 2
  | .off => 0
  | .on => 1
  | .hold => 2
  | .repeating => 3

/-- R47: 0 low, 1 high, 2 idle, 3 oneshot, 4 repeat, 5 continuous. -/
def PulseMode.code : PulseMode → BitVec 3
  | .low => 0
  | .high => 1
  | .idle => 2
  | .oneshot => 3
  | .repeating => 4
  | .continuous => 5

/-- R47: 0 deleted, 1 running, 2 completed. -/
def PulseState.code : PulseState → BitVec 2
  | .deleted => 0
  | .running => 1
  | .completed => 2

/-- R47, R451: 0 head, 1 active, 2 tail, 3 none. -/
def Stage.code : Stage → BitVec 2
  | .head => 0
  | .active => 1
  | .tail => 2
  | .noStage => 3

/-- The kind code of a record (R37). -/
def Record.kind : Record → Byte
  | .tmrAlarm .. => 0x01
  | .swEvent .. => 0x02
  | .adcChange .. => 0x03
  | .adcSample .. => 0x04
  | .serByte .. => 0x05
  | .serLine .. => 0x06
  | .pinSet .. => 0x10
  | .txByte .. => 0x11

/-! ### Field-read views (R49): the value at a selector, none for an unlisted one (R149) -/

/-- `zext_32` of a field (R16). -/
def zext {n : Nat} (v : BitVec n) : Word := v.setWidth 32

/-- `zext_32` of a `bool` field. -/
def zextBool (b : Bool) : Word := zext (BitVec.ofBool b)

/-- Pending ticks: `(TICK - CONSUMED) mod 2^32` (R521). -/
def pending (s : State) : Word := s.tick - s.consumed

/-- SYS_RDF selectors (R39, R528). -/
def sysField (s : State) (sel : Byte) : Option Word :=
  match sel.toNat with
  | 0 => some s.tick
  | 1 => some s.consumed
  | 2 => some (pending s)
  | 3 => some s.clkBase
  | 4 => some s.clkRef
  | _ => none

/-- Q_RDF selectors (R40, R211). -/
def queueField (x : Queue) (sel : Byte) : Option Word :=
  match sel.toNat with
  | 0 => some (zext x.cap)
  | 1 => some (zext x.count)
  | 2 => some (zext x.put)
  | 3 => some (zext x.get)
  | 4 => some (zext x.lerr.code)
  | 5 => some (zext x.base)
  | _ => none

/-- SER_RDF selectors (R42, R269). -/
def portField (x : Port) (sel : Byte) : Option Word :=
  match sel.toNat with
  | 0 => some (zextBool x.be)
  | 1 => some (zext x.bcb)
  | 2 => some (zextBool x.le)
  | 3 => some (zext x.lcb)
  | 4 => some (zext x.lsize)
  | 5 => some (zext x.term)
  | 6 => some (zext x.llen)
  | 7 => some (zext x.lstate.code)
  | _ => none

/-- TMR_RDF selectors (R44, R311). -/
def timerField (x : Timer) (sel : Byte) : Option Word :=
  match sel.toNat with
  | 0 => some (zext x.state.code)
  | 1 => some (zext (timerModeCode x.mode))
  | 2 => some (zext x.ticks)
  | 3 => some (zext x.reload)
  | 4 => some x.alarm
  | 5 => some (zext x.cb)
  | _ => none

/-- SW_RDF selectors (R45, R356). -/
def switchField (x : Switch) (sel : Byte) : Option Word :=
  match sel.toNat with
  | 0 => some (zextBool x.valid)
  | 1 => some (zext x.mode.code)
  | 2 => some (zext x.src)
  | 3 => some (zextBool x.onLevel)
  | 4 => some (zext x.onValue)
  | 5 => some (zext x.tol)
  | 6 => some (zext x.state.code)
  | 7 => some (zext x.cnt)
  | 8 => some (zext x.rcnt)
  | 9 => some (zext x.debounce)
  | 10 => some (zext x.hold)
  | 11 => some (zext x.rep)
  | 12 => some (zext x.data)
  | 13 => some (zext x.cb)
  | _ => none

/-- ADC_RDF selectors (R46, R405); delta is sign-extended. -/
def channelField (x : Channel) (sel : Byte) : Option Word :=
  match sel.toNat with
  | 0 => some (zextBool x.en)
  | 1 => some (zextBool x.primed)
  | 2 => some (zext x.ch)
  | 3 => some (zext x.shift)
  | 4 => some (zext x.raw)
  | 5 => some (zext x.min)
  | 6 => some (zext x.max)
  | 7 => some (zext x.prev)
  | 8 => some (x.delta.signExtend 32)
  | 9 => some (zext x.thr)
  | 10 => some (zext x.evi)
  | 11 => some (zext x.evc)
  | 12 => some (zext x.si)
  | 13 => some (zext x.scnt)
  | 14 => some (zext x.ccb)
  | 15 => some (zext x.scb)
  | _ => none

/-- PDS_RDF selectors (R47, R467); 8 is the derived tail `(T - H - A) mod 2^16`. -/
def pulseField (x : Pulse) (sel : Byte) : Option Word :=
  match sel.toNat with
  | 0 => some (zext x.mode.code)
  | 1 => some (zext x.state.code)
  | 2 => some (zext x.pin)
  | 3 => some (zextBool x.inv)
  | 4 => some (zextBool x.out)
  | 5 => some (zext x.head)
  | 6 => some (zext x.act)
  | 7 => some (zext x.total)
  | 8 => some (zext (x.total - x.head - x.act))
  | 9 => some (zext x.cycles)
  | 10 => some (zext x.rem)
  | 11 => some (zext x.phase)
  | 12 => some (zext x.stage.code)
  | _ => none

end Sys2Proof.Machine
end

