-- ==== Sys2Proof/Machine/Ops.lean ====
section
/-! DEFINITION. The named operations every meaning is built from: slot updates, output, draws, QMEM bytes, the queue cores
(R203, R206), the bank checks (R201, R251, R300, R351, R400, R450), and the two interrupt steps (R520, R210). The block
has no trap, so there is no exception entry and no return from one (R590, R591): an error is `raise` (Machine/Flags.lean)
and an interrupt is one of the atomic steps `tickIrq` and `rxIrq` below. -/

namespace Sys2Proof.Machine

/-- What a command's meaning answers. -/
abbrev Answer : Type := Host.Outcome State Fault Refusal

/-! ### Slot updates and output -/

/-- Write Q[q]. -/
def setQueue (q : Nat) (x : Queue) (s : State) : State := { s with queues := s.queues.set q x }

/-- Write S[p]. -/
def setPort (p : Nat) (x : Port) (s : State) : State := { s with ports := s.ports.set p x }

/-- Write T[i]. -/
def setTimer (i : Nat) (x : Timer) (s : State) : State := { s with timers := s.timers.set i x }

/-- Write SW[i]. -/
def setSwitch (i : Nat) (x : Switch) (s : State) : State := { s with switches := s.switches.set i x }

/-- Write A[i]. -/
def setChannel (i : Nat) (x : Channel) (s : State) : State := { s with channels := s.channels.set i x }

/-- Write P[g]. -/
def setPulse (g : Nat) (x : Pulse) (s : State) : State := { s with pulses := s.pulses.set g x }

/-- Write Q[q].lerr (R204). -/
def setLerr (q : Nat) (c : ResultCode) (s : State) : State :=
  match s.queues[q]? with
  | some x => setQueue q { x with lerr := c } s
  | none => s

/-- `Emit` (R20): append records to OUT, in order. -/
def emit (rs : List Record) (s : State) : State := { s with out := s.out ++ rs }

/-! ### Draws (R21) -/

/-- One draw at a key of a table of announced answers: the first announced answer, which is used up unless it is the
last; without an announced answer, the free one. -/
def drawFrom {α : Type} (script : List (Nat × List α)) (k : Nat) (free : α) : α × List (Nat × List α) :=
  match Table.lookup k script with
  | some [v] => (v, script)
  | some (v :: w :: rest) => (v, Table.insert k (w :: rest) script)
  | some [] => (free, script)
  | none => (free, script)

/-- `PinIn(pin)` (R21, R36). -/
def drawPin (pin : Byte) (s : State) : Bool × State :=
  let d := drawFrom s.env.pins pin.toNat (Config.pinIn s.env.draws pin)
  (d.1, { s with env := { s.env with pins := d.2, draws := s.env.draws + 1 } })

/-- `AdcIn(ch)` (R21, R36). -/
def drawAdc (ch : Byte) (s : State) : Sample × State :=
  let d := drawFrom s.env.adcs ch.toNat (Config.adcIn s.env.draws ch)
  (d.1, { s with env := { s.env with adcs := d.2, draws := s.env.draws + 1 } })

/-- `TxReady(port)` (R21, R36). -/
def drawTx (p : Byte) (s : State) : Bool × State :=
  let d := drawFrom s.env.txs p.toNat (Config.txReady s.env.draws p)
  (d.1, { s with env := { s.env with txs := d.2, draws := s.env.draws + 1 } })

/-! ### QMEM bytes (R18, R104) -/

/-- `MemRead(addr, 1)`: a byte that no step has written since reset reads as any value, for each read a fresh one
(R105, U1). -/
def memRead (a : Nat) (s : State) : Byte × State :=
  match Table.lookup a s.qmem with
  | some b => (b, s)
  | none => (Config.unwrittenQmem s.env.draws a, { s with env := { s.env with draws := s.env.draws + 1 } })

/-- `MemWrite(addr, 1, b)`. -/
def memWrite (a : Nat) (b : Byte) (s : State) : State := { s with qmem := Table.insert a b s.qmem }

/-! ### Queue cores -/

/-- A cursor after the slot it points at: modulo capacity (R41, R203, R206). -/
def nextSlot (k cap : Half) : Half := BitVec.ofNat 16 ((k.toNat + 1) % cap.toNat)

/-- The QMEM address of slot `k` of a queue (R102). -/
def slotAddr (x : Queue) (k : Half) : Nat := x.base.toNat + k.toNat

/-- QPutCore (R203) on an initialised queue: none is QueueFull, with no write and no cursor moved. -/
def queuePut (q : Nat) (b : Byte) (s : State) : Option State :=
  match s.queues[q]? with
  | none => none
  | some x =>
    if x.count = x.cap then none
    else some (setQueue q { x with put := nextSlot x.put x.cap, count := x.count + 1 } (memWrite (slotAddr x x.put) b s))

/-- QGetCore (R206) on an initialised queue: none is QueueEmpty, otherwise the oldest byte and the state without it. -/
def queueGet (q : Nat) (s : State) : Option (Byte × State) :=
  match s.queues[q]? with
  | none => none
  | some x =>
    if x.count = 0 then none
    else
      let d := memRead (slotAddr x x.get) s
      some (d.1, setQueue q { x with get := nextSlot x.get x.cap, count := x.count - 1 } d.2)

/-! ### Bank checks. Each runs `k` on the object when the check passes and raises InvalidArgument otherwise. -/

/-- `q < N_QUEUE` (R571), the check of Q_INIT and Q_RDF. -/
def onQueueSlot (q : Nat) (s : State) (k : Queue → State) : State :=
  match s.queues[q]? with
  | some x => k x
  | none => raise .invalidArgument s

/-- QCheck (R201): the queue exists and is initialised. -/
def onQueue (q : Nat) (s : State) (k : Queue → State) : State :=
  onQueueSlot q s fun x => if x.cap = 0 then raise .invalidArgument s else k x

/-- PCheck (R251). -/
def onPort (p : Nat) (s : State) (k : Port → State) : State :=
  match s.ports[p]? with
  | some x => k x
  | none => raise .invalidArgument s

/-- TCheck (R300). -/
def onTimer (i : Nat) (s : State) (k : Timer → State) : State :=
  match s.timers[i]? with
  | some x => k x
  | none => raise .invalidArgument s

/-- TLive (R300): the timer exists and is not deleted. -/
def onLiveTimer (i : Nat) (s : State) (k : Timer → State) : State :=
  onTimer i s fun x => if x.state = .deleted then raise .invalidArgument s else k x

/-- SCheck (R351). -/
def onSwitch (i : Nat) (s : State) (k : Switch → State) : State :=
  match s.switches[i]? with
  | some x => k x
  | none => raise .invalidArgument s

/-- SLive (R351): the switch exists and is valid. -/
def onLiveSwitch (i : Nat) (s : State) (k : Switch → State) : State :=
  onSwitch i s fun x => if x.valid then k x else raise .invalidArgument s

/-- ACheck (R400). -/
def onChannel (i : Nat) (s : State) (k : Channel → State) : State :=
  match s.channels[i]? with
  | some x => k x
  | none => raise .invalidArgument s

/-- ALive (R400): the channel exists and is enabled. -/
def onLiveChannel (i : Nat) (s : State) (k : Channel → State) : State :=
  onChannel i s fun x => if x.en then k x else raise .invalidArgument s

/-- GCheck (R450). -/
def onPulse (g : Nat) (s : State) (k : Pulse → State) : State :=
  match s.pulses[g]? with
  | some x => k x
  | none => raise .invalidArgument s

/-- GLive (R450): the generator exists and is not deleted. -/
def onLivePulse (g : Nat) (s : State) (k : Pulse → State) : State :=
  onPulse g s fun x => if x.state = .deleted then raise .invalidArgument s else k x

/-! ### Interrupt steps -/

/-- The RX queue of port `p` (R250). -/
def rxQueue (p : Nat) : Nat := 2 * p

/-- The TX queue of port `p` (R250). -/
def txQueue (p : Nat) : Nat := 2 * p + 1

/-- The TickIRQ step (R520): TICK counts up mod 2^32 and nothing else changes. -/
def tickIrq (s : State) : State := { s with tick := s.tick + 1 }

/-- The RxIRQ[p] step (R210): the byte is put into Q[2p], or dropped when the queue is uninitialised or full. An agent
RxIRQ[p] exists only for p below N_PORT (R110; notes/assumptions/11.md). -/
def rxIrq (p : Nat) (b : Byte) (s : State) : State :=
  match s.ports[p]?, s.queues[rxQueue p]? with
  | some _, some x =>
    if x.cap = 0 then s
    else
      match queuePut (rxQueue p) b s with
      | some t => t
      | none => s
  | _, _ => s

end Sys2Proof.Machine
end

