-- ==== Sys2Proof/Machine/Analog.lean ====
section
/-! DEFINITION. The analog sampler commands and the analog pass (44_analog.md). -/

namespace Sys2Proof.Machine

/-! ### The analog pass -/

/-- The output value `raw >> shift` (R401). -/
def outputValue (x : Channel) (raw : Sample) : Sample := raw >>> x.shift.toNat

/-- The signed difference of two output values, in 11 bits (R430, R46). -/
def sampleDelta (v prev : Sample) : BitVec 11 := v.setWidth 11 - prev.setWidth 11

/-- The change-detection half for one reading (R430): the first sample only sets the reference; later ones update
min, max, delta and the saturating suppression counter, and report a change above the threshold. -/
def changeStep (i : Nat) (x : Channel) (raw : Sample) : Channel × List Record :=
  let v := outputValue x raw
  if x.primed then
    let d := sampleDelta v x.prev
    let n := if x.evc = 0xFFFF#16 then x.evc else x.evc + 1
    let y := { x with
      raw := raw
      min := if v < x.min then v else x.min
      max := if x.max < v then v else x.max
      delta := d
      evc := n }
    if x.thr.toNat < d.toInt.natAbs ∧ x.evi ≤ n then
      ({ y with prev := v, evc := 0 }, fire x.ccb fun tag => .adcChange (BitVec.ofNat 8 i) tag v d)
    else (y, [])
  else ({ x with raw := raw, prev := v, min := v, max := v, delta := 0, primed := true }, [])

/-- The sampling cadence half (R430), independent of the change detection. -/
def cadenceStep (i : Nat) (x : Channel) (v : Sample) : Channel × List Record :=
  if x.si = 0 then (x, [])
  else if x.si ≤ x.scnt + 1 then
    ({ x with scnt := 0 }, fire x.scb fun tag => .adcSample (BitVec.ofNat 8 i) tag v)
  else ({ x with scnt := x.scnt + 1 }, [])

/-- One enabled channel in the analog pass for one reading (R430): the change record precedes the sample record. -/
def channelStep (i : Nat) (x : Channel) (raw : Sample) : Channel × List Record :=
  let a := changeStep i x raw
  let b := cadenceStep i a.1 (outputValue x raw)
  (b.1, a.2 ++ b.2)

/-- Channel `i` in the analog pass: one draw per enabled channel. -/
def channelSlot (s : State) (i : Nat) : State :=
  match s.channels[i]? with
  | none => s
  | some x =>
    if x.en then
      let d := drawAdc x.ch s
      let r := channelStep i x d.1
      emit r.2 (setChannel i r.1 d.2)
    else s

/-- AnalogPass (R430): the enabled channels in ascending order. -/
def analogPass (s : State) : State := (List.range s.channels.length).foldl channelSlot s

/-! ### Commands -/

/-- ADC_CREATE (R402): channel id and shift in ARG0, thr and evi in ARG1, si in ARG2, the callback words in ARG3; the
suppression counter starts saturated. -/
def execAdcCreate (i : Byte) (s : State) : Answer :=
  .next (onChannel i.toNat s fun _ =>
    if 9 < (shiftOf s.arg0).toNat then raise .invalidArgument s
    else finish .ok (setChannel i.toNat
      { en := true, primed := false, ch := lowByte s.arg0, shift := shiftOf s.arg0, raw := 0, min := 0, max := 0,
        prev := 0, delta := 0, thr := lowHalf s.arg1, evi := highHalf s.arg1, evc := 0xFFFF, si := lowHalf s.arg2,
        scnt := 0, ccb := lowHalf s.arg3, scb := highHalf s.arg3 } s))

/-- ADC_DELETE (R403): the other fields keep their values. -/
def execAdcDelete (i : Byte) (s : State) : Answer :=
  .next (onChannel i.toNat s fun x => finish .ok (setChannel i.toNat { x with en := false } s))

/-- ADC_SET_CALLBACKS (R404): both callback words, from ARG3; the counters are not touched. -/
def execAdcSetCallbacks (i : Byte) (s : State) : Answer :=
  .next (onLiveChannel i.toNat s fun x =>
    finish .ok (setChannel i.toNat { x with ccb := lowHalf s.arg3, scb := highHalf s.arg3 } s))

/-- ADC_RDF (R405). -/
def execAdcRdf (i sel : Byte) (s : State) : Answer :=
  .next (onChannel i.toNat s fun x => finishField (channelField x sel) s)

/-- ADC_ADVANCE (R406): one analog pass as one atomic step. -/
def execAdcAdvance (s : State) : Answer := .next (finish .ok (analogPass s))

end Sys2Proof.Machine
end

