-- ==== Sys2Proof/Machine/Pulses.lean ====
section
/-! DEFINITION. The pulse generator commands and the PDS pass (45_pdsgen.md). -/

namespace Sys2Proof.Machine

/-! ### Shared definitions -/

/-- Pattern(g) (R450): oneshot, repeat or continuous. -/
def isPattern (x : Pulse) : Bool :=
  match x.mode with
  | .oneshot | .repeating | .continuous => true
  | .low | .high | .idle => false

/-- StageOf(g, p) (R451), in exact arithmetic. -/
def stageOf (x : Pulse) (p : Half) : Stage :=
  if p.toNat < x.head.toNat then .head
  else if p.toNat < x.head.toNat + x.act.toNat then .active
  else .tail

/-- ProgLevel (R451): the active stage is at pulse level, every other stage at rest level. -/
def progLevel (g : Stage) : Bool :=
  match g with
  | .active => true
  | .head | .tail | .noStage => false

/-- Drive (R452): `out` and the pin take the programmed level XORed with the invert flag. -/
def drive (x : Pulse) (prog : Bool) : Pulse × List Record :=
  let lvl := xor prog x.inv
  ({ x with out := lvl }, [.pinSet x.pin lvl])

/-- Complete (R453): completed, no stage, one drive back to rest level. -/
def complete (x : Pulse) : Pulse × List Record := drive { x with state := .completed, stage := .noStage } false

/-! ### The PDS pass -/

/-- The end of a PDS pass for a generator whose phase counter has been set (R500): a change of stage drives the pin. -/
def pulseStage (x : Pulse) : Pulse × List Record :=
  let g := stageOf x x.phase
  if g = x.stage then (x, []) else drive { x with stage := g } (progLevel g)

/-- One generator in the PDS pass (R500). -/
def pulseStep (x : Pulse) : Pulse × List Record :=
  if x.state = .running ∧ isPattern x = true then
    let y := { x with phase := x.phase + 1 }
    match x.mode with
    | .oneshot => if x.head.toNat + x.act.toNat ≤ y.phase.toNat then complete y else pulseStage y
    | .repeating =>
      if x.total ≤ y.phase then
        let z := { y with phase := 0, rem := x.rem - 1 }
        if z.rem = 0 then complete z else pulseStage z
      else pulseStage y
    | .continuous | .low | .high | .idle =>
      if x.total ≤ y.phase then pulseStage { y with phase := 0 } else pulseStage y
  else (x, [])

/-- Generator `g` in the PDS pass. -/
def pulseSlot (s : State) (g : Nat) : State :=
  match s.pulses[g]? with
  | some x => emit (pulseStep x).2 (setPulse g (pulseStep x).1 s)
  | none => s

/-- PdsPass (R500): the generators in ascending order. -/
def pulsePass (s : State) : State := (List.range s.pulses.length).foldl pulseSlot s

/-! ### Create commands -/

/-- Write generator `g` and emit the records of its drive, then finish Ok. -/
def finishPulse (g : Nat) (r : Pulse × List Record) (s : State) : State := finish .ok (emit r.2 (setPulse g r.1 s))

/-- The slot a create of a static or idle generator writes (R454, R455, R456): pin and inv from ARG0. -/
def staticPulse (mode : PulseMode) (out : Bool) (s : State) : Pulse :=
  { mode := mode, state := .running, pin := lowByte s.arg0, inv := bit8 s.arg0, out := out, head := 0, act := 0,
    total := 0, cycles := 0, rem := 0, phase := 0, stage := .noStage }

/-- The slot a create of a pattern generator writes (R457..R460): pin and inv from ARG0, at phase `p`. -/
def patternPulse (mode : PulseMode) (h a t c p : Half) (out : Bool) (s : State) : Pulse :=
  let x : Pulse :=
    { mode := mode, state := .running, pin := lowByte s.arg0, inv := bit8 s.arg0, out := out, head := h, act := a,
      total := t, cycles := c, rem := c, phase := p, stage := .noStage }
  { x with stage := stageOf x p }

/-- A pattern generator is created and its pin driven to the level of its first stage (R457..R460). -/
def createPattern (g : Nat) (mode : PulseMode) (h a t c p : Half) (old : Pulse) (s : State) : State :=
  let x := patternPulse mode h a t c p old.out s
  finishPulse g (drive x (progLevel x.stage)) s

/-- PDS_CREATE_LOW (R454). -/
def execPdsCreateLow (g : Byte) (s : State) : Answer :=
  .next (onPulse g.toNat s fun x => finishPulse g.toNat (drive (staticPulse .low x.out s) false) s)

/-- PDS_CREATE_HIGH (R455). -/
def execPdsCreateHigh (g : Byte) (s : State) : Answer :=
  .next (onPulse g.toNat s fun x => finishPulse g.toNat (drive (staticPulse .high x.out s) true) s)

/-- PDS_CREATE_IDLE (R456): the pin is left untouched and out reads 0. -/
def execPdsCreateIdle (g : Byte) (s : State) : Answer :=
  .next (onPulse g.toNat s fun _ => finishPulse g.toNat (staticPulse .idle false s, []) s)

/-- PDS_CREATE_ONESHOT (R457): H and A from ARG1, T is H + A. -/
def execPdsCreateOneshot (g : Byte) (s : State) : Answer :=
  .next (onPulse g.toNat s fun x =>
    let h := lowHalf s.arg1
    let a := highHalf s.arg1
    if h.toNat + a.toNat = 0 ∨ 65535 < h.toNat + a.toNat then raise .invalidArgument s
    else createPattern g.toNat .oneshot h a (h + a) 0 0 x s)

/-- PDS_CREATE_REPEAT (R458): H and A from ARG1, T and C from ARG2; C = 0 is refused. -/
def execPdsCreateRepeat (g : Byte) (s : State) : Answer :=
  .next (onPulse g.toNat s fun x =>
    let h := lowHalf s.arg1
    let a := highHalf s.arg1
    let t := lowHalf s.arg2
    let c := highHalf s.arg2
    if t = 0 ∨ t.toNat < h.toNat + a.toNat then raise .invalidArgument s
    else if c = 0 then raise .invalidArgument s
    else createPattern g.toNat .repeating h a t c 0 x s)

/-- PDS_CREATE_CONTINUOUS (R459): H and A from ARG1, T from ARG2[15:0]. -/
def execPdsCreateContinuous (g : Byte) (s : State) : Answer :=
  .next (onPulse g.toNat s fun x =>
    let h := lowHalf s.arg1
    let a := highHalf s.arg1
    let t := lowHalf s.arg2
    if t = 0 ∨ t.toNat < h.toNat + a.toNat then raise .invalidArgument s
    else createPattern g.toNat .continuous h a t 0 0 x s)

/-- `(shift * T) >> 16`, the creation offset of PDS_CREATE_PWM: a Q0.16 fraction of T (R460, R143). -/
def pwmOffset (sh t : Half) : Half := BitVec.ofNat 16 ((sh.toNat * t.toNat) >>> 16)

/-- PDS_CREATE_PWM (R460): H is 0, A from ARG1[31:16], T and the shift fraction from ARG2. -/
def execPdsCreatePwm (g : Byte) (s : State) : Answer :=
  .next (onPulse g.toNat s fun x =>
    let a := highHalf s.arg1
    let t := lowHalf s.arg2
    if t = 0 ∨ t < a then raise .invalidArgument s
    else createPattern g.toNat .continuous 0 a t 0 (pwmOffset (highHalf s.arg2) t) x s)

/-! ### Control commands -/

/-- A generator that can give or take a phase (R461): running in a pattern mode. -/
def canSync (x : Pulse) : Bool := isPattern x && decide (x.state = .running)

/-- SyncCore (R461): dst takes src's phase counter and stage and drives its pin. -/
def syncCore (dst src : Pulse) : Pulse × List Record :=
  let y := { dst with phase := src.phase, stage := src.stage }
  drive y (progLevel y.stage)

/-- PDS_SYNC (R461): both ids are checked before the state errors. -/
def execPdsSync (dst src : Byte) (s : State) : Answer :=
  .next (onLivePulse dst.toNat s fun d => onLivePulse src.toNat s fun x =>
    if canSync d && canSync x then finishPulse dst.toNat (syncCore d x) s else raise .genericError s)

/-- Generator `g` in PDS_SYNC_ALL against the reference `r` in slot `ri` (R462). -/
def syncSlot (ri : Nat) (r : Pulse) (s : State) (g : Nat) : State :=
  match s.pulses[g]? with
  | some x => if g ≠ ri ∧ canSync x = true then emit (syncCore x r).2 (setPulse g (syncCore x r).1 s) else s
  | none => s

/-- PDS_SYNC_ALL (R462): every other running pattern generator, in ascending order. -/
def execPdsSyncAll (g : Byte) (s : State) : Answer :=
  .next (onLivePulse g.toNat s fun r =>
    if canSync r then finish .ok ((List.range s.pulses.length).foldl (syncSlot g.toNat r) s)
    else raise .genericError s)

/-- The level a static generator is driven to (R463, R466): low 0, high 1. -/
def staticLevel (x : Pulse) : Bool := decide (x.mode = .high)

/-- Restart of a live generator (R463). -/
def restart (x : Pulse) : Pulse × List Record :=
  let y := { x with state := .running }
  if isPattern x then
    let z := { y with phase := 0, rem := x.cycles, stage := stageOf x 0 }
    drive z (progLevel z.stage)
  else if x.mode = .idle then (y, [])
  else drive y (staticLevel y)

/-- PDS_RESTART (R463). -/
def execPdsRestart (g : Byte) (s : State) : Answer :=
  .next (onLivePulse g.toNat s fun x => finishPulse g.toNat (restart x) s)

/-- PDS_STOP (R464): completed without a pin call. -/
def execPdsStop (g : Byte) (s : State) : Answer :=
  .next (onLivePulse g.toNat s fun x =>
    finishPulse g.toNat ({ x with state := .completed, stage := .noStage }, []) s)

/-- PDS_DELETE (R465): the other fields keep their stale values. -/
def execPdsDelete (g : Byte) (s : State) : Answer :=
  .next (onPulse g.toNat s fun x =>
    finishPulse g.toNat ({ x with state := .deleted, stage := .noStage }, []) s)

/-- Change of the invert flag of a live generator (R466): a running one that is not idle drives its pin again. -/
def setInvert (x : Pulse) (inv : Bool) : Pulse × List Record :=
  let y := { x with inv := inv }
  if x.state = .running then
    if isPattern x then drive y (progLevel y.stage)
    else if x.mode = .idle then (y, [])
    else drive y (staticLevel y)
  else (y, [])

/-- PDS_SET_INVERT (R466). -/
def execPdsSetInvert (g : Byte) (inv : Bool) (s : State) : Answer :=
  .next (onLivePulse g.toNat s fun x => finishPulse g.toNat (setInvert x inv) s)

/-- PDS_RDF (R467). -/
def execPdsRdf (g sel : Byte) (s : State) : Answer :=
  .next (onPulse g.toNat s fun x => finishField (pulseField x sel) s)

/-- PDS_ADVANCE (R468): one PDS pass as one atomic step. -/
def execPdsAdvance (s : State) : Answer := .next (finish .ok (pulsePass s))

end Sys2Proof.Machine
end

