-- ==== Sys2Proof/Machine/RingQueue.lean ====
section
/-! DEFINITION. The ring queue commands and the direct QMEM byte commands (40_ring_queue.md). -/

namespace Sys2Proof.Machine

/-- A put on an initialised queue by a host command (R205, R264): lerr and RES take the result (R204). -/
def hostPut (q : Nat) (b : Byte) (s : State) : State :=
  match queuePut q b s with
  | some t => finish .ok (setLerr q .ok t)
  | none => finish .queueFull (setLerr q .queueFull s)

/-- A get on an initialised queue by a host command (R207, R267): lerr and RES take the result, RDATA the byte. -/
def hostGet (q : Nat) (s : State) : State :=
  match queueGet q s with
  | some (b, t) => finishData (zext b) (setLerr q .ok t)
  | none => finish .queueEmpty (setLerr q .queueEmpty s)

/-- Q_INIT (R200): base is ARG0[15:0], length ARG1[15:0]; the window must fit in QMEM; its bytes are not touched. -/
def execQInit (q : Byte) (s : State) : Answer :=
  .next (onQueueSlot q.toNat s fun _ =>
    let base := lowHalf s.arg0
    let len := lowHalf s.arg1
    if len = 0 then raise .invalidArgument s
    else if s.qmemSize < base.toNat + len.toNat then raise .invalidArgument s
    else finish .ok
      (setQueue q.toNat { cap := len, count := 0, put := 0, get := 0, lerr := .ok, base := base } s))

/-- Q_PUT (R205). -/
def execQPut (q b : Byte) (s : State) : Answer :=
  .next (onQueue q.toNat s fun _ => hostPut q.toNat b s)

/-- Q_GET (R207). -/
def execQGet (q : Byte) (s : State) : Answer :=
  .next (onQueue q.toNat s fun _ => hostGet q.toNat s)

/-- Q_SPACE (R208): RDATA takes the free slots. -/
def execQSpace (q : Byte) (s : State) : Answer :=
  .next (onQueue q.toNat s fun x => finishData (zext (x.cap - x.count)) s)

/-- Q_RESET (R209): count and cursors are cleared, cap, base and the bytes are kept. -/
def execQReset (q : Byte) (s : State) : Answer :=
  .next (onQueue q.toNat s fun x =>
    finish .ok (setQueue q.toNat { x with count := 0, put := 0, get := 0, lerr := .ok } s))

/-- Q_RDF (R211). -/
def execQRdf (q sel : Byte) (s : State) : Answer :=
  .next (onQueueSlot q.toNat s fun x => finishField (queueField x sel) s)

/-- QM_RD (R220): the address is ARG0[15:0]. -/
def execQmRd (s : State) : Answer :=
  let a := (lowHalf s.arg0).toNat
  .next (if s.qmemSize ≤ a then raise .invalidArgument s
    else
      let d := memRead a s
      finishData (zext d.1) d.2)

/-- QM_WR (R221): the address is ARG0[15:0]; no cursor moves. -/
def execQmWr (b : Byte) (s : State) : Answer :=
  let a := (lowHalf s.arg0).toNat
  .next (if s.qmemSize ≤ a then raise .invalidArgument s else finish .ok (memWrite a b s))

end Sys2Proof.Machine
end

