-- ==== Sys2Proof/Machine/Serial.lean ====
section
/-! DEFINITION. The serial port commands and the serial pass (41_serial.md). -/

namespace Sys2Proof.Machine

/-! ### The serial pass -/

/-- Byte `LB[k]` of port `p`'s line buffer; a byte nothing has written is unspecified (U2) and free (log 5). -/
def lineByte (p : Nat) (x : Port) (k : Nat) : Byte :=
  match Table.lookup k x.lb with
  | some b => b
  | none => Config.unwrittenLine p k

/-- `LB[0 .. n-1]`, in receive order (R281, R107). -/
def lineBytes (p : Nat) (x : Port) (n : Nat) : List Byte := (List.range n).map (lineByte p x)

/-- The line receiver returns to idle with an empty line (R281, R253, R255). -/
def lineIdle (x : Port) : Port := { x with llen := 0, lstate := .idle }

/-- LineFeed (R281): the port and the records of one received byte. -/
def lineFeed (p : Nat) (x : Port) (b : Byte) : Port × List Record :=
  if b = x.term then
    (lineIdle x, fire x.lcb fun tag => .serLine (BitVec.ofNat 8 p) tag x.llen (lineBytes p x x.llen.toNat))
  else
    let y := { x with lb := Table.insert x.llen.toNat b x.lb, llen := x.llen + 1, lstate := .accumulating }
    if y.llen = y.lsize then
      (lineIdle y, fire y.lcb fun tag => .serLine (BitVec.ofNat 8 p) tag y.lsize (lineBytes p y y.lsize.toNat))
    else (y, [])

/-- What the attached receivers of a port do with one byte: the byte receiver first, then the line receiver (R280). -/
def receiveByte (p : Nat) (x : Port) (b : Byte) : Port × List Record :=
  let byteRecs := if x.be then fire x.bcb fun tag => .serByte (BitVec.ofNat 8 p) tag b else []
  if x.le then
    let r := lineFeed p x b
    (r.1, byteRecs ++ r.2)
  else (x, byteRecs)

/-- The drain loop of SerialRx (R280), `n` bytes at most: lerr is not written. -/
def rxLoop (p : Nat) : Nat → State → State
  | 0, s => s
  | n + 1, s =>
    match queueGet (rxQueue p) s with
    | none => s
    | some (b, t) =>
      match t.ports[p]? with
      | none => t
      | some x =>
        let r := receiveByte p x b
        rxLoop p n (emit r.2 (setPort p r.1 t))

/-- SerialRx (R280): every byte present is drained when a receiver is attached, none otherwise. -/
def serialRx (p : Nat) (s : State) : State :=
  match s.ports[p]?, s.queues[rxQueue p]? with
  | some x, some q =>
    if q.cap = 0 then s
    else if x.be = false ∧ x.le = false then s
    else rxLoop p q.count.toNat s
  | _, _ => s

/-- The drain loop of SerialTx (R282), `n` bytes at most: TxReady is drawn before each byte. -/
def txLoop (p : Nat) : Nat → State → State
  | 0, s => s
  | n + 1, s =>
    let d := drawTx (BitVec.ofNat 8 p) s
    if d.1 then
      match queueGet (txQueue p) d.2 with
      | none => d.2
      | some (b, t) => txLoop p n (emit [.txByte (BitVec.ofNat 8 p) b] t)
    else d.2

/-- SerialTx (R282). -/
def serialTx (p : Nat) (s : State) : State :=
  match s.queues[txQueue p]? with
  | some q => if q.cap = 0 then s else txLoop p q.count.toNat s
  | none => s

/-- The two halves of the serial pass for port `p` (R283). -/
def serialPort (s : State) (p : Nat) : State := serialTx p (serialRx p s)

/-- SerialPass (R283): the ports in ascending order. -/
def serialPass (s : State) : State := (List.range s.ports.length).foldl serialPort s

/-! ### Waits -/

/-- SER_WRITE_SYNC from its wait on (R266): one draw of TxReady; when it is true the byte leaves and the command
finishes in the same step, otherwise the host still waits. -/
def pollWriteSync (p b : Byte) (s : State) : State :=
  let d := drawTx p s
  if d.1 then finish .ok (emit [.txByte p b] d.2) else { d.2 with active := some (.serWriteSync p b) }

/-- SER_READ_SYNC from its wait on (R268): when the RX queue holds a byte it is taken and the command finishes in the
same step, otherwise the host still waits. -/
def pollReadSync (p : Byte) (s : State) : State :=
  match queueGet (rxQueue p.toNat) s with
  | some (b, t) => finishData (zext b) (setLerr (rxQueue p.toNat) .ok t)
  | none => { s with active := some (.serReadSync p) }

/-! ### Commands -/

/-- SER_ATTACH_BYTE (R252). -/
def execSerAttachByte (p : Byte) (cbw : Half) (s : State) : Answer :=
  .next (onPort p.toNat s fun x => finish .ok (setPort p.toNat { x with be := true, bcb := cbw } s))

/-- SER_ATTACH_LINE (R253): size is ARG0[15:0], the terminator ARG0[23:16]; a partial line is discarded. -/
def execSerAttachLine (p : Byte) (cbw : Half) (s : State) : Answer :=
  .next (onPort p.toNat s fun x =>
    let size := lowHalf s.arg0
    if size = 0 ∨ s.lineMax < size.toNat then raise .invalidArgument s
    else finish .ok
      (setPort p.toNat (lineIdle { x with le := true, lcb := cbw, lsize := size, term := termOf s.arg0 }) s))

/-- SER_DETACH_BYTE (R254): bcb is kept. -/
def execSerDetachByte (p : Byte) (s : State) : Answer :=
  .next (onPort p.toNat s fun x => finish .ok (setPort p.toNat { x with be := false } s))

/-- SER_DETACH_LINE (R255): a partial line is discarded without a record. -/
def execSerDetachLine (p : Byte) (s : State) : Answer :=
  .next (onPort p.toNat s fun x => finish .ok (setPort p.toNat (lineIdle { x with le := false }) s))

/-- SER_WRITE (R264): the byte is put into the TX queue. -/
def execSerWrite (p b : Byte) (s : State) : Answer :=
  .next (onPort p.toNat s fun _ => onQueue (txQueue p.toNat) s fun _ => hostPut (txQueue p.toNat) b s)

/-- SER_WRITE_SYNC (R266): the TX queue is bypassed. The step performs the first draw of the wait. -/
def execSerWriteSync (p b : Byte) (s : State) : Answer :=
  .next (onPort p.toNat s fun _ => pollWriteSync p b s)

/-- SER_READ (R267): a byte is taken from the RX queue. -/
def execSerRead (p : Byte) (s : State) : Answer :=
  .next (onPort p.toNat s fun _ => onQueue (rxQueue p.toNat) s fun _ => hostGet (rxQueue p.toNat) s)

/-- SER_READ_SYNC (R268): errors are raised before any wait. -/
def execSerReadSync (p : Byte) (s : State) : Answer :=
  .next (onPort p.toNat s fun _ => onQueue (rxQueue p.toNat) s fun _ => pollReadSync p s)

/-- SER_RDF (R269). -/
def execSerRdf (p sel : Byte) (s : State) : Answer :=
  .next (onPort p.toNat s fun x => finishField (portField x sel) s)

/-- SER_ADVANCE (R270): one serial pass as one atomic step. -/
def execSerAdvance (s : State) : Answer := .next (finish .ok (serialPass s))

end Sys2Proof.Machine
end

