-- ==== Sys2Proof/Machine/Switches.lean ====
section
/-! DEFINITION. The switch commands and the switch pass (43_switch.md). -/

namespace Sys2Proof.Machine

/-! ### Sampling -/

/-- ActiveDigital (R370): one draw of the pin; data takes the level. -/
def sampleDigital (x : Switch) (s : State) : Bool × Switch × State :=
  let d := drawPin x.src s
  (d.1 == x.onLevel, { x with data := (BitVec.ofBool d.1).setWidth 10 }, d.2)

/-- `abs(r - on_value) <= tol` (R371). -/
def inWindow (x : Switch) (r : Sample) : Bool :=
  decide (((r.toNat : Int) - (x.onValue.toNat : Int)).natAbs ≤ x.tol.toNat)

/-- ActiveAnalog (R371): the window comparator over the channel's stored raw value; a channel that is disabled or not
primed reads inactive and leaves data unchanged. -/
def sampleAnalog (x : Switch) (s : State) : Bool × Switch :=
  match s.channels[x.src.toNat]? with
  | some c => if c.en && c.primed then (inWindow x c.raw, { x with data := c.raw }) else (false, x)
  | none => (false, x)

/-! ### The switch pass -/

/-- The records of a switch that enters `st` (R380). -/
def switchEvent (i : Nat) (x : Switch) (st : SwitchState) : List Record :=
  fire x.cb fun tag => .swEvent (BitVec.ofNat 8 i) tag st

/-- The state machine of one switch for one sample `a` (R380). -/
def switchStep (i : Nat) (x : Switch) (a : Bool) : Switch × List Record :=
  match x.state, a with
  | .off, true =>
    if x.debounce ≤ x.cnt + 1 then ({ x with state := .on, cnt := 0, rcnt := 0 }, switchEvent i x .on)
    else ({ x with cnt := x.cnt + 1 }, [])
  | .off, false => ({ x with cnt := 0 }, [])
  | _, false =>
    if x.debounce ≤ x.rcnt + 1 then ({ x with state := .off, cnt := 0, rcnt := 0 }, switchEvent i x .off)
    else ({ x with rcnt := x.rcnt + 1 }, [])
  | .on, true =>
    if x.hold = 0 then ({ x with rcnt := 0 }, [])
    else if x.hold ≤ x.cnt + 1 then ({ x with rcnt := 0, state := .hold, cnt := 0 }, switchEvent i x .hold)
    else ({ x with rcnt := 0, cnt := x.cnt + 1 }, [])
  | .hold, true =>
    if x.rep = 0 then ({ x with rcnt := 0 }, [])
    else if x.rep ≤ x.cnt + 1 then ({ x with rcnt := 0, state := .repeating, cnt := 0 }, switchEvent i x .repeating)
    else ({ x with rcnt := 0, cnt := x.cnt + 1 }, [])
  | .repeating, true =>
    if x.rep ≤ x.cnt + 1 then ({ x with rcnt := 0, cnt := 0 }, switchEvent i x .repeating)
    else ({ x with rcnt := 0, cnt := x.cnt + 1 }, [])

/-- Switch `i` in the switch pass: one sample, then the state machine. -/
def switchSlot (s : State) (i : Nat) : State :=
  match s.switches[i]? with
  | none => s
  | some x =>
    if x.valid then
      match x.mode with
      | .digital =>
        let d := sampleDigital x s
        let r := switchStep i d.2.1 d.1
        emit r.2 (setSwitch i r.1 d.2.2)
      | .analog =>
        let d := sampleAnalog x s
        let r := switchStep i d.2 d.1
        emit r.2 (setSwitch i r.1 s)
    else s

/-- SwitchPass (R380): the valid switches in ascending order. -/
def switchPass (s : State) : State := (List.range s.switches.length).foldl switchSlot s

/-! ### Commands -/

/-- SW_CREATE_DIGITAL (R352): pin and on_level in ARG0, D and H in ARG1, R in ARG2. -/
def execSwCreateDigital (i : Byte) (cbw : Half) (s : State) : Answer :=
  .next (onSwitch i.toNat s fun _ =>
    if lowHalf s.arg1 = 0 then raise .invalidArgument s
    else finish .ok (setSwitch i.toNat
      { valid := true, mode := .digital, src := lowByte s.arg0, onLevel := bit8 s.arg0, onValue := 0, tol := 0,
        state := .off, cnt := 0, rcnt := 0, debounce := lowHalf s.arg1, hold := highHalf s.arg1,
        rep := lowHalf s.arg2, data := 0, cb := cbw } s))

/-- SW_CREATE_ANALOG (R353): channel index, on_value and tol in ARG0, D and H in ARG1, R in ARG2. -/
def execSwCreateAnalog (i : Byte) (cbw : Half) (s : State) : Answer :=
  .next (onSwitch i.toNat s fun _ =>
    if s.channels.length ≤ (lowByte s.arg0).toNat then raise .invalidArgument s
    else if lowHalf s.arg1 = 0 then raise .invalidArgument s
    else finish .ok (setSwitch i.toNat
      { valid := true, mode := .analog, src := lowByte s.arg0, onLevel := false, onValue := onValueOf s.arg0,
        tol := tolOf s.arg0, state := .off, cnt := 0, rcnt := 0, debounce := lowHalf s.arg1,
        hold := highHalf s.arg1, rep := lowHalf s.arg2, data := 0, cb := cbw } s))

/-- SW_DELETE (R354): no event is emitted and the other fields stay. -/
def execSwDelete (i : Byte) (s : State) : Answer :=
  .next (onSwitch i.toNat s fun x => finish .ok (setSwitch i.toNat { x with valid := false } s))

/-- SW_SET_CALLBACK (R355). -/
def execSwSetCallback (i : Byte) (cbw : Half) (s : State) : Answer :=
  .next (onLiveSwitch i.toNat s fun x => finish .ok (setSwitch i.toNat { x with cb := cbw } s))

/-- SW_RDF (R356). -/
def execSwRdf (i sel : Byte) (s : State) : Answer :=
  .next (onSwitch i.toNat s fun x => finishField (switchField x sel) s)

/-- SW_ADVANCE (R357): one switch pass as one atomic step. -/
def execSwAdvance (s : State) : Answer := .next (finish .ok (switchPass s))

end Sys2Proof.Machine
end

