-- ==== Sys2Proof/Machine/Timers.lean ====
section
/-! DEFINITION. The timer commands and the timer pass (42_timer.md). -/

namespace Sys2Proof.Machine

/-! ### The timer pass -/

/-- One timer in the timer pass (R330): the timer after it and its records. The record carries the alarm count including
this alarm. -/
def timerStep (i : Nat) (x : Timer) : Timer × List Record :=
  if x.state = .running then
    if x.ticks + 1 = x.reload then
      let rs := fire x.cb fun tag => .tmrAlarm (BitVec.ofNat 8 i) tag (x.alarm + 1)
      match x.mode with
      | .interval => ({ x with ticks := 0, alarm := x.alarm + 1 }, rs)
      | .timeout => ({ x with ticks := x.ticks + 1, alarm := x.alarm + 1, state := .stopped }, rs)
    else ({ x with ticks := x.ticks + 1 }, [])
  else (x, [])

/-- Timer `i` in the timer pass. -/
def timerSlot (s : State) (i : Nat) : State :=
  match s.timers[i]? with
  | some x => emit (timerStep i x).2 (setTimer i (timerStep i x).1 s)
  | none => s

/-- TimerPass (R330): the timers in ascending order. -/
def timerPass (s : State) : State := (List.range s.timers.length).foldl timerSlot s

/-! ### Commands -/

/-- TMR_CREATE_INTERVAL and TMR_CREATE_TIMEOUT (R301, R302): PeriodCheck, then every field is set; the callback word is
ARG0[15:0]. -/
def createTimer (mode : TimerMode) (i : Nat) (period : Half) (s : State) : State :=
  onTimer i s fun _ =>
    if period = 0 then raise .invalidArgument s
    else finish .ok (setTimer i
      { state := .running, mode := mode, ticks := 0, reload := period, alarm := 0, cb := lowHalf s.arg0 } s)

/-- TMR_CREATE_INTERVAL (R301). -/
def execTmrCreateInterval (i : Byte) (period : Half) (s : State) : Answer :=
  .next (createTimer .interval i.toNat period s)

/-- TMR_CREATE_TIMEOUT (R302). -/
def execTmrCreateTimeout (i : Byte) (period : Half) (s : State) : Answer :=
  .next (createTimer .timeout i.toNat period s)

/-- TMR_START (R303): running from zero ticks; the alarm count is kept. -/
def execTmrStart (i : Byte) (s : State) : Answer :=
  .next (onLiveTimer i.toNat s fun x => finish .ok (setTimer i.toNat { x with ticks := 0, state := .running } s))

/-- TMR_STOP (R304): ticks is kept. -/
def execTmrStop (i : Byte) (s : State) : Answer :=
  .next (onLiveTimer i.toNat s fun x => finish .ok (setTimer i.toNat { x with state := .stopped } s))

/-- TMR_PAUSE (R305): GenericError when the timer is not running. -/
def execTmrPause (i : Byte) (s : State) : Answer :=
  .next (onLiveTimer i.toNat s fun x =>
    if x.state = .running then finish .ok (setTimer i.toNat { x with state := .paused } s)
    else raise .genericError s)

/-- TMR_RESUME (R306): GenericError when the timer is not paused. -/
def execTmrResume (i : Byte) (s : State) : Answer :=
  .next (onLiveTimer i.toNat s fun x =>
    if x.state = .paused then finish .ok (setTimer i.toNat { x with state := .running } s)
    else raise .genericError s)

/-- TMR_DELETE (R307): the other fields keep their stale values. -/
def execTmrDelete (i : Byte) (s : State) : Answer :=
  .next (onTimer i.toNat s fun x => finish .ok (setTimer i.toNat { x with state := .deleted } s))

/-- TMR_SET_PERIOD (R308): ticks is unchanged. -/
def execTmrSetPeriod (i : Byte) (period : Half) (s : State) : Answer :=
  .next (onLiveTimer i.toNat s fun x =>
    if period = 0 then raise .invalidArgument s
    else finish .ok (setTimer i.toNat { x with reload := period } s))

/-- TMR_SET_MODE (R309): state and ticks are unchanged. -/
def execTmrSetMode (i : Byte) (mode : TimerMode) (s : State) : Answer :=
  .next (onLiveTimer i.toNat s fun x => finish .ok (setTimer i.toNat { x with mode := mode } s))

/-- TMR_SET_CALLBACK (R310). -/
def execTmrSetCallback (i : Byte) (cbw : Half) (s : State) : Answer :=
  .next (onLiveTimer i.toNat s fun x => finish .ok (setTimer i.toNat { x with cb := cbw } s))

/-- TMR_RDF (R311). -/
def execTmrRdf (i sel : Byte) (s : State) : Answer :=
  .next (onTimer i.toNat s fun x => finishField (timerField x sel) s)

/-- TMR_ADVANCE (R312): one timer pass as one atomic step. -/
def execTmrAdvance (s : State) : Answer := .next (finish .ok (timerPass s))

end Sys2Proof.Machine
end

