-- ==== Sys2Proof/Machine/Dispatcher.lean ====
section
/-! DEFINITION. The dispatcher, clock and system commands, and the sub-steps of the commands that take more than one
step (46_dispatcher.md, R110, R527). -/

namespace Sys2Proof.Machine

/-! ### Rounds and passes -/

/-- One pass over one unit's bank (R523). -/
def runPass (p : Pass) (s : State) : State :=
  match p with
  | .timer => timerPass s
  | .switch => switchPass s
  | .analog => analogPass s
  | .pulse => pulsePass s
  | .serial => serialPass s

/-- The pass after a pass in the fixed order of R523; none after the serial pass. -/
def nextPass (p : Pass) : Option Pass :=
  match p with
  | .timer => some .switch
  | .switch => some .analog
  | .analog => some .pulse
  | .pulse => some .serial
  | .serial => none

/-- Round() (R523): the five passes in their fixed order. -/
def round (s : State) : State :=
  runPass .serial (runPass .pulse (runPass .analog (runPass .switch (runPass .timer s))))

/-- A pass sub-step of DSP_PASS (R527): after the serial pass only the finish is left. -/
def passSubstep (p : Pass) (s : State) : State :=
  { runPass p s with active := some (.dspPass (nextPass p)) }

/-- A pass sub-step of DSP_RUN (R527) in a round after which `left` more are to run. -/
def runSubstep (n : Word) (left : Nat) (p : Pass) (s : State) : State :=
  { runPass p s with active := some (match nextPass p with
      | some p' => .dspRun n (left + 1) p'
      | none => .dspRun n left .timer) }

/-- The next sub-step of the executing command (R527, R266, R268); without one nothing happens. -/
def advance (s : State) : State :=
  match s.active with
  | none => s
  | some (.dspPass (some p)) => passSubstep p s
  | some (.dspPass none) => finish .ok s
  | some (.dspRun n 0 _) => finishData n s
  | some (.dspRun n (left + 1) p) => runSubstep n left p s
  | some (.serWriteSync p b) => pollWriteSync p b s
  | some (.serReadSync p) => pollReadSync p s

/-! ### Commands -/

/-- NOP (R522). -/
def execNop (s : State) : Answer := .next (finish .ok s)

/-- DSP_CONSUME (R524): RDATA takes PENDING and CONSUMED takes TICK, in one atomic step. -/
def execDspConsume (s : State) : Answer :=
  .next (finishData (pending s) { s with consumed := s.tick })

/-- DSP_PASS (R525, R527): the command starts with its first sub-step, the timer pass; `advance` takes the others. -/
def execDspPass (s : State) : Answer := .next (passSubstep .timer s)

/-- DSP_RUN (R526, R527): the command starts with sub-step 0, which consumes the pending ticks; `advance` takes the
others. -/
def execDspRun (s : State) : Answer :=
  .next { s with consumed := s.tick, active := some (.dspRun (pending s) (pending s).toNat .timer) }

/-- SYS_RDF (R528). -/
def execSysRdf (sel : Byte) (s : State) : Answer := .next (finishField (sysField s sel) s)

/-- ClockMs() (R530): milliseconds of the day. -/
def clockMs (s : State) : Nat := (s.clkBase.toNat + (s.tick - s.clkRef).toNat) % 86400000

/-- CLK_GET (R532). -/
def execClkGet (s : State) : Answer :=
  let t := clockMs s
  .next (finishData (clkPack (t / 3600000) (t / 60000 % 60) (t / 1000 % 60) (t % 1000)) s)

/-- CLK_SET (R531): the packed clock in ARG0; a field out of its range is refused. -/
def execClkSet (s : State) : Answer :=
  let h := clkHour s.arg0
  let m := clkMin s.arg0
  let sec := clkSec s.arg0
  let ms := clkMs s.arg0
  .next (if 23 < h ∨ 59 < m ∨ 59 < sec ∨ 999 < ms then raise .invalidArgument s
    else finish .ok { s with clkBase := BitVec.ofNat 32 (((h * 60 + m) * 60 + sec) * 1000 + ms), clkRef := s.tick })

end Sys2Proof.Machine
end

