-- ==== Sys2Proof/Machine/Dispatch.lean ====
section
/-! DEFINITION. The dispatch of a decoded command to its meaning, one arm per constructor of `Instr`. -/

namespace Sys2Proof.Machine

def exec (i : Instr) (s : State) : Host.Outcome State Fault Refusal :=
  match i with
  | .nop => Sys2Proof.Machine.execNop s
  | .dspConsume => Sys2Proof.Machine.execDspConsume s
  | .dspPass => Sys2Proof.Machine.execDspPass s
  | .dspRun => Sys2Proof.Machine.execDspRun s
  | .sysRdf sel => Sys2Proof.Machine.execSysRdf sel s
  | .clkGet => Sys2Proof.Machine.execClkGet s
  | .clkSet => Sys2Proof.Machine.execClkSet s
  | .qInit q => Sys2Proof.Machine.execQInit q s
  | .qPut q b => Sys2Proof.Machine.execQPut q b s
  | .qGet q => Sys2Proof.Machine.execQGet q s
  | .qSpace q => Sys2Proof.Machine.execQSpace q s
  | .qReset q => Sys2Proof.Machine.execQReset q s
  | .qRdf q sel => Sys2Proof.Machine.execQRdf q sel s
  | .qmRd => Sys2Proof.Machine.execQmRd s
  | .qmWr b => Sys2Proof.Machine.execQmWr b s
  | .serAttachByte p cbw => Sys2Proof.Machine.execSerAttachByte p cbw s
  | .serAttachLine p cbw => Sys2Proof.Machine.execSerAttachLine p cbw s
  | .serDetachByte p => Sys2Proof.Machine.execSerDetachByte p s
  | .serDetachLine p => Sys2Proof.Machine.execSerDetachLine p s
  | .serWrite p b => Sys2Proof.Machine.execSerWrite p b s
  | .serWriteSync p b => Sys2Proof.Machine.execSerWriteSync p b s
  | .serRead p => Sys2Proof.Machine.execSerRead p s
  | .serReadSync p => Sys2Proof.Machine.execSerReadSync p s
  | .serRdf p sel => Sys2Proof.Machine.execSerRdf p sel s
  | .serAdvance => Sys2Proof.Machine.execSerAdvance s
  | .tmrCreateInterval j period => Sys2Proof.Machine.execTmrCreateInterval j period s
  | .tmrCreateTimeout j period => Sys2Proof.Machine.execTmrCreateTimeout j period s
  | .tmrStart j => Sys2Proof.Machine.execTmrStart j s
  | .tmrStop j => Sys2Proof.Machine.execTmrStop j s
  | .tmrPause j => Sys2Proof.Machine.execTmrPause j s
  | .tmrResume j => Sys2Proof.Machine.execTmrResume j s
  | .tmrDelete j => Sys2Proof.Machine.execTmrDelete j s
  | .tmrSetPeriod j period => Sys2Proof.Machine.execTmrSetPeriod j period s
  | .tmrSetMode j mode => Sys2Proof.Machine.execTmrSetMode j mode s
  | .tmrSetCallback j cbw => Sys2Proof.Machine.execTmrSetCallback j cbw s
  | .tmrRdf j sel => Sys2Proof.Machine.execTmrRdf j sel s
  | .tmrAdvance => Sys2Proof.Machine.execTmrAdvance s
  | .swCreateDigital j cbw => Sys2Proof.Machine.execSwCreateDigital j cbw s
  | .swCreateAnalog j cbw => Sys2Proof.Machine.execSwCreateAnalog j cbw s
  | .swDelete j => Sys2Proof.Machine.execSwDelete j s
  | .swSetCallback j cbw => Sys2Proof.Machine.execSwSetCallback j cbw s
  | .swRdf j sel => Sys2Proof.Machine.execSwRdf j sel s
  | .swAdvance => Sys2Proof.Machine.execSwAdvance s
  | .adcCreate j => Sys2Proof.Machine.execAdcCreate j s
  | .adcDelete j => Sys2Proof.Machine.execAdcDelete j s
  | .adcSetCallbacks j => Sys2Proof.Machine.execAdcSetCallbacks j s
  | .adcRdf j sel => Sys2Proof.Machine.execAdcRdf j sel s
  | .adcAdvance => Sys2Proof.Machine.execAdcAdvance s
  | .pdsCreateLow g => Sys2Proof.Machine.execPdsCreateLow g s
  | .pdsCreateHigh g => Sys2Proof.Machine.execPdsCreateHigh g s
  | .pdsCreateIdle g => Sys2Proof.Machine.execPdsCreateIdle g s
  | .pdsCreateOneshot g => Sys2Proof.Machine.execPdsCreateOneshot g s
  | .pdsCreateRepeat g => Sys2Proof.Machine.execPdsCreateRepeat g s
  | .pdsCreateContinuous g => Sys2Proof.Machine.execPdsCreateContinuous g s
  | .pdsCreatePwm g => Sys2Proof.Machine.execPdsCreatePwm g s
  | .pdsSync dst src => Sys2Proof.Machine.execPdsSync dst src s
  | .pdsSyncAll g => Sys2Proof.Machine.execPdsSyncAll g s
  | .pdsRestart g => Sys2Proof.Machine.execPdsRestart g s
  | .pdsStop g => Sys2Proof.Machine.execPdsStop g s
  | .pdsDelete g => Sys2Proof.Machine.execPdsDelete g s
  | .pdsSetInvert g inv => Sys2Proof.Machine.execPdsSetInvert g inv s
  | .pdsRdf g sel => Sys2Proof.Machine.execPdsRdf g sel s
  | .pdsAdvance => Sys2Proof.Machine.execPdsAdvance s

end Sys2Proof.Machine
end

