-- ==== Sys2Proof/Machine/HostPort.lean ====
section
/-! DEFINITION. The host interface (R32, R35, R106, R108, R141), the external reset (R620, R621), and what each input of
the run does to the block. Machine/Step.lean only picks the input. -/

namespace Sys2Proof.Machine

/-- A command with a reserved OPC (R147): RES takes GenericError and nothing else changes. -/
def reservedCommand (s : State) : State := raise .genericError s

/-- A command word accepted at CMD (R141): the decoded command is executed; the step performs its first sub-step. -/
def startCommand (w : Word) (s : State) : Answer :=
  match decode w with
  | .ok i => exec i { s with cmd := w }
  | .error _ => .next (reservedCommand { s with cmd := w })

/-- A host register access has a step only when it is 32 bits wide at a multiple of 4 (R108). -/
def accessOk (off : Word) (width : AccessWidth) : Bool := decide (width = .word) && decide (off.toNat % 4 = 0)

/-- A 32-bit host write at an aligned offset (R32, R106). While BUSY is 1 writes to CMD and ARG0..ARG3 are ignored
(R35, U10); a write to a read-only register or a reserved offset has no effect at any time (R106; log 8). -/
def hostWrite (off v : Word) (s : State) : Answer :=
  if busy s then .next s
  else
    match off.toNat with
    | 0x00 => startCommand v s
    | 0x04 => .next { s with arg0 := v }
    | 0x08 => .next { s with arg1 := v }
    | 0x0C => .next { s with arg2 := v }
    | 0x10 => .next { s with arg3 := v }
    | _ => .next s

/-- What a 32-bit host read at an aligned offset returns (R32, R106): CMD and reserved offsets read 0. -/
def hostRead (off : Word) (s : State) : Word :=
  match off.toNat with
  | 0x04 => s.arg0
  | 0x08 => s.arg1
  | 0x0C => s.arg2
  | 0x10 => s.arg3
  | 0x14 => zext s.res.code
  | 0x18 => s.rdata
  | 0x1C => zextBool (busy s)
  | _ => 0

/-- The external reset (R620, R621): the block takes its reset state and an executing command is abandoned. What is
outside the block, the run still to come and the environment, stays. -/
def resetBlock (s : State) : State :=
  { State.resetOf s.params with inputs := s.inputs, env := s.env, hostData := s.hostData }

/-- The environment announces answers to draws (R153, log 3). -/
def setEnv (e : Env) (s : State) : State := { s with env := e }

/-- One input of the run, already taken off the list in `s`; `s₀` is the state with the input still on it. -/
def takeInput (i : Input) (s₀ s : State) : Answer :=
  match i with
  | .write off width v => if accessOk off width then hostWrite off v s else .fault (.hostAccess off width)
  | .read off width =>
    if accessOk off width then .next { s with hostData := hostRead off s } else .fault (.hostAccess off width)
  | .tick => .next (tickIrq s)
  | .rx p b => .next (rxIrq p.toNat b s)
  | .pin pin levels => .next (setEnv { s.env with pins := Table.insert pin.toNat levels s.env.pins } s)
  | .adc ch values => .next (setEnv { s.env with adcs := Table.insert ch.toNat values s.env.adcs } s)
  | .txReady p answers => .next (setEnv { s.env with txs := Table.insert p.toNat answers s.env.txs } s)
  | .reset => .next (resetBlock s)
  | .run => .next (advance s)
  | .wait => if busy s₀ then .next (advance s₀) else .next s

end Sys2Proof.Machine
end

