-- ==== Sys2Proof/Machine/Step.lean ====
section
/-! DEFINITION. One step of the machine: the first input of the run is taken (R110, R111); when the run holds no further
input, the executing command takes its next sub-step, and an idle block waits (R620). -/

namespace Sys2Proof.Machine

/-- One step. -/
def step (s : State) : Host.Outcome State Fault Refusal :=
  match s.inputs with
  | [] => .next (advance s)
  | i :: rest => takeInput i s { s with inputs := rest }

/-- The state in which the next step is the host's write of the command word `w` to CMD. The block fetches nothing
(R50, R116): a command arrives as a CMD write, accepted when BUSY is 0, so BUSY is 0 in it. -/
def State.withFetchWord (s : State) (nbits w : Nat) : State :=
  { s with active := none, inputs := .write 0x00 .word (BitVec.ofNat 32 (w % 2 ^ nbits)) :: s.inputs }

end Sys2Proof.Machine
end

