-- ==== Sys2Proof/WellFormed.lean ====
section
/-! DEFINITION. Well-formedness. Every term of `Instr` is well formed: its operand fields have exactly the widths of the
bits that encode them (R141, R143), so no check on a command word remains. What can be ill formed is a choice of the
parameters of the block; the checks are the ranges of 00_scope.md R11, one each. -/

namespace Sys2Proof

/-- N_TIMER is in 1..256 (R11). -/
def Params.timerOk (c : Params) : Bool := 1 ≤ c.nTimer && c.nTimer ≤ 256

/-- N_SWITCH is in 1..256 (R11). -/
def Params.switchOk (c : Params) : Bool := 1 ≤ c.nSwitch && c.nSwitch ≤ 256

/-- N_ADC is in 1..256 (R11). -/
def Params.adcOk (c : Params) : Bool := 1 ≤ c.nAdc && c.nAdc ≤ 256

/-- N_PDS is in 1..256 (R11). -/
def Params.pdsOk (c : Params) : Bool := 1 ≤ c.nPds && c.nPds ≤ 256

/-- N_PORT is in 1..128 (R11). -/
def Params.portOk (c : Params) : Bool := 1 ≤ c.nPort && c.nPort ≤ 128

/-- N_QUEUE is in 2·N_PORT..256 (R11, R250). -/
def Params.queueOk (c : Params) : Bool := 2 * c.nPort ≤ c.nQueue && c.nQueue ≤ 256

/-- QMEM_SIZE is in 1..65536 (R11, R100). -/
def Params.qmemOk (c : Params) : Bool := 1 ≤ c.qmemSize && c.qmemSize ≤ 65536

/-- LINE_MAX is in 1..65535 (R11). -/
def Params.lineOk (c : Params) : Bool := 1 ≤ c.lineMax && c.lineMax ≤ 65535

/-- Every parameter is in the range R11 gives it. -/
def Params.wf (c : Params) : Bool :=
  c.timerOk && c.switchOk && c.adcOk && c.pdsOk && c.portOk && c.queueOk && c.qmemOk && c.lineOk

end Sys2Proof
end

