-- ==== Sys2Proof/Safety.lean ====
section
/-! DEFINITION. The terms in which statements about the machine are made: the invariants of each kind of object and of
the whole state, and what a safe run is. -/

namespace Sys2Proof.Machine

/-! ### Invariants -/

/-- A ring queue over a QMEM of `size` bytes (R41, R102): an uninitialised queue is empty with cursors 0; an initialised
one has its count within capacity, its cursors below it, put at get + count modulo it, and its window inside QMEM. -/
def QueueInv (size : Nat) (x : Queue) : Prop :=
  (x.cap = 0 → x.count = 0 ∧ x.put = 0 ∧ x.get = 0) ∧
  (x.cap ≠ 0 →
    x.count.toNat ≤ x.cap.toNat ∧ x.put.toNat < x.cap.toNat ∧ x.get.toNat < x.cap.toNat ∧
    x.put.toNat = (x.get.toNat + x.count.toNat) % x.cap.toNat ∧ x.base.toNat + x.cap.toNat ≤ size)

/-- A serial port (R42, R43, R253): accumulating exactly with a non-empty partial line; an attached line receiver has a
size in 1..LINE_MAX and holds fewer bytes than that; a detached one holds none; every held byte has been written. -/
def PortInv (lineMax : Nat) (x : Port) : Prop :=
  (x.lstate = .accumulating ↔ x.llen ≠ 0) ∧
  (x.le = true → x.lsize ≠ 0 ∧ x.lsize.toNat ≤ lineMax ∧ x.llen.toNat < x.lsize.toNat) ∧
  (x.le = false → x.llen = 0) ∧
  Table.wf x.lb = true ∧
  (∀ c ∈ x.lb, c.1 < lineMax) ∧
  (∀ k < x.llen.toNat, Table.lookup k x.lb ≠ none)

/-- A timer (R44): a created one has a period of 1..65535. -/
def TimerInv (x : Timer) : Prop := x.state = .deleted ∨ x.reload ≠ 0

/-- The counters of a valid switch stay below the interval they are compared with (R380). -/
def SwitchCounters (x : Switch) : Prop :=
  match x.state with
  | .off => x.cnt.toNat < x.debounce.toNat ∧ x.rcnt = 0
  | .on => x.rcnt.toNat < x.debounce.toNat ∧ (x.hold = 0 → x.cnt = 0) ∧ (x.hold ≠ 0 → x.cnt.toNat < x.hold.toNat)
  | .hold => x.rcnt.toNat < x.debounce.toNat ∧ (x.rep = 0 → x.cnt = 0) ∧ (x.rep ≠ 0 → x.cnt.toNat < x.rep.toNat)
  | .repeating => x.rcnt.toNat < x.debounce.toNat ∧ x.rep ≠ 0 ∧ x.cnt.toNat < x.rep.toNat

/-- A switch over `nAdc` analog channels (R45, R352, R353, R380). -/
def SwitchInv (nAdc : Nat) (x : Switch) : Prop :=
  x.valid = true → x.debounce ≠ 0 ∧ (x.mode = .analog → x.src.toNat < nAdc) ∧ SwitchCounters x

/-- An analog channel (R46, R401, R431): the shift is at most 9, a primed channel's reference and latest output value lie
between min and max, and the sampling counter is below its interval. -/
def ChannelInv (x : Channel) : Prop :=
  x.en = true →
    x.shift.toNat ≤ 9 ∧
    (x.primed = true → x.min ≤ x.prev ∧ x.prev ≤ x.max ∧
      x.min ≤ outputValue x x.raw ∧ outputValue x x.raw ≤ x.max) ∧
    (x.si = 0 → x.scnt = 0) ∧ (x.si ≠ 0 → x.scnt.toNat < x.si.toNat)

/-- The durations of a live pattern generator are valid (R457, R458, R459). -/
def PulseShape (x : Pulse) : Prop :=
  x.state ≠ .deleted ∧ isPattern x = true →
    x.total ≠ 0 ∧ x.head.toNat + x.act.toNat ≤ x.total.toNat ∧
    (x.mode = .repeating → x.cycles ≠ 0) ∧
    (x.mode = .oneshot → x.total.toNat = x.head.toNat + x.act.toNat)

/-- A running pattern generator is in a stage, its phase counter can count up, and a repeat has cycles left (R500). -/
def PulseRuns (x : Pulse) : Prop :=
  x.state = .running ∧ isPattern x = true →
    x.stage ≠ .noStage ∧ x.phase.toNat < 65535 ∧
    (x.mode = .repeating → x.rem ≠ 0 ∧ x.rem.toNat ≤ x.cycles.toNat)

/-- Every other generator has no stage (R47, R453, R454..R456, R464, R465). -/
def PulseRests (x : Pulse) : Prop := x.state ≠ .running ∨ isPattern x = false → x.stage = .noStage

/-- A pulse generator. -/
def PulseInv (x : Pulse) : Prop := PulseShape x ∧ PulseRuns x ∧ PulseRests x

/-- The position of an executing command (R50, R527, R266, R268). -/
def ActiveInv (s : State) : Prop :=
  match s.active with
  | none => True
  | some (.dspPass _) => True
  | some (.dspRun n left _) => left ≤ n.toNat
  | some (.serWriteSync p _) => p.toNat < s.ports.length
  | some (.serReadSync p) => p.toNat < s.ports.length ∧ ∀ x, s.queues[rxQueue p.toNat]? = some x → x.cap ≠ 0

/-- QMEM is in canonical form and lists only addresses that exist (R100). -/
def QmemInv (s : State) : Prop := Memory.wf s.qmem = true ∧ ∀ c ∈ s.qmem, c.1 < s.qmemSize

/-- The invariant of the whole state. -/
structure State.Inv (s : State) : Prop where
  params : s.params.wf = true
  queues : ∀ x ∈ s.queues, QueueInv s.qmemSize x
  ports : ∀ x ∈ s.ports, PortInv s.lineMax x
  timers : ∀ x ∈ s.timers, TimerInv x
  switches : ∀ x ∈ s.switches, SwitchInv s.channels.length x
  channels : ∀ x ∈ s.channels, ChannelInv x
  pulses : ∀ x ∈ s.pulses, PulseInv x
  qmem : QmemInv s
  clock : s.clkBase.toNat < 86400000
  active : ActiveInv s

/-! ### Reading one byte of memory -/

/-- What a state knows of the QMEM byte at an address: the value written there, none when nothing has been written. -/
def State.byteAt (s : State) (a : Nat) : Option Byte := Table.lookup a s.qmem

/-! ### What a command may write -/

/-- `s` with the fields that a command may write taken from `t` (the "Results" of each command's rule, R34, R37): every
command may write RES and end, and nothing beside its row here. -/
def mayWrite (i : Instr) (s t : State) : State :=
  match i with
  | .nop => { s with res := t.res, active := t.active }
  | .dspConsume => { s with res := t.res, active := t.active, rdata := t.rdata, consumed := t.consumed }
  | .dspPass => { s with res := t.res, active := t.active, timers := t.timers, out := t.out }
  | .dspRun => { s with res := t.res, active := t.active, consumed := t.consumed }
  | .clkSet => { s with res := t.res, active := t.active, clkBase := t.clkBase, clkRef := t.clkRef }
  | .sysRdf _ | .clkGet | .qSpace _ | .qRdf _ _ | .serRdf _ _ | .tmrRdf _ _ | .swRdf _ _ | .adcRdf _ _ | .pdsRdf _ _ =>
    { s with res := t.res, active := t.active, rdata := t.rdata }
  | .qInit _ | .qReset _ => { s with res := t.res, active := t.active, queues := t.queues }
  | .qPut _ _ | .serWrite _ _ => { s with res := t.res, active := t.active, queues := t.queues, qmem := t.qmem }
  | .qGet _ | .serRead _ | .serReadSync _ =>
    { s with res := t.res, active := t.active, queues := t.queues, rdata := t.rdata, env := t.env }
  | .qmRd => { s with res := t.res, active := t.active, rdata := t.rdata, env := t.env }
  | .qmWr _ => { s with res := t.res, active := t.active, qmem := t.qmem }
  | .serAttachByte _ _ | .serAttachLine _ _ | .serDetachByte _ | .serDetachLine _ =>
    { s with res := t.res, active := t.active, ports := t.ports }
  | .serWriteSync _ _ => { s with res := t.res, active := t.active, out := t.out, env := t.env }
  | .serAdvance =>
    { s with res := t.res, active := t.active, queues := t.queues, ports := t.ports, out := t.out, env := t.env }
  | .tmrCreateInterval _ _ | .tmrCreateTimeout _ _ | .tmrStart _ | .tmrStop _ | .tmrPause _ | .tmrResume _
  | .tmrDelete _ | .tmrSetPeriod _ _ | .tmrSetMode _ _ | .tmrSetCallback _ _ =>
    { s with res := t.res, active := t.active, timers := t.timers }
  | .tmrAdvance => { s with res := t.res, active := t.active, timers := t.timers, out := t.out }
  | .swCreateDigital _ _ | .swCreateAnalog _ _ | .swDelete _ | .swSetCallback _ _ =>
    { s with res := t.res, active := t.active, switches := t.switches }
  | .swAdvance => { s with res := t.res, active := t.active, switches := t.switches, out := t.out, env := t.env }
  | .adcCreate _ | .adcDelete _ | .adcSetCallbacks _ =>
    { s with res := t.res, active := t.active, channels := t.channels }
  | .adcAdvance => { s with res := t.res, active := t.active, channels := t.channels, out := t.out, env := t.env }
  | .pdsCreateLow _ | .pdsCreateHigh _ | .pdsCreateIdle _ | .pdsCreateOneshot _ | .pdsCreateRepeat _
  | .pdsCreateContinuous _ | .pdsCreatePwm _ | .pdsSync _ _ | .pdsSyncAll _ | .pdsRestart _ | .pdsStop _ | .pdsDelete _
  | .pdsSetInvert _ _ | .pdsAdvance =>
    { s with res := t.res, active := t.active, pulses := t.pulses, out := t.out }

/-- The bits of ARG0, ARG1, ARG2 and ARG3 that a command reads (the ARG column of R145, with R144); it ignores the
others (R33, R150). -/
def argMask (i : Instr) : Word × Word × Word × Word :=
  match i with
  | .clkSet => (0x07FFFFFF, 0, 0, 0)
  | .qInit _ => (0x0000FFFF, 0x0000FFFF, 0, 0)
  | .qmRd | .qmWr _ => (0x0000FFFF, 0, 0, 0)
  | .serAttachLine _ _ => (0x00FFFFFF, 0, 0, 0)
  | .tmrCreateInterval _ _ | .tmrCreateTimeout _ _ => (0x0000FFFF, 0, 0, 0)
  | .swCreateDigital _ _ => (0x000001FF, 0xFFFFFFFF, 0x0000FFFF, 0)
  | .swCreateAnalog _ _ => (0x0FFFFFFF, 0xFFFFFFFF, 0x0000FFFF, 0)
  | .adcCreate _ => (0x00000FFF, 0xFFFFFFFF, 0x0000FFFF, 0xFFFFFFFF)
  | .adcSetCallbacks _ => (0, 0, 0, 0xFFFFFFFF)
  | .pdsCreateLow _ | .pdsCreateHigh _ | .pdsCreateIdle _ => (0x000001FF, 0, 0, 0)
  | .pdsCreateOneshot _ => (0x000001FF, 0xFFFFFFFF, 0, 0)
  | .pdsCreateRepeat _ => (0x000001FF, 0xFFFFFFFF, 0xFFFFFFFF, 0)
  | .pdsCreateContinuous _ => (0x000001FF, 0xFFFFFFFF, 0x0000FFFF, 0)
  | .pdsCreatePwm _ => (0x000001FF, 0xFFFF0000, 0xFFFFFFFF, 0)
  | .nop | .dspConsume | .dspPass | .dspRun | .sysRdf _ | .clkGet
  | .qPut _ _ | .qGet _ | .qSpace _ | .qReset _ | .qRdf _ _
  | .serAttachByte _ _ | .serDetachByte _ | .serDetachLine _ | .serWrite _ _ | .serWriteSync _ _ | .serRead _
  | .serReadSync _ | .serRdf _ _ | .serAdvance
  | .tmrStart _ | .tmrStop _ | .tmrPause _ | .tmrResume _ | .tmrDelete _ | .tmrSetPeriod _ _ | .tmrSetMode _ _
  | .tmrSetCallback _ _ | .tmrRdf _ _ | .tmrAdvance
  | .swDelete _ | .swSetCallback _ _ | .swRdf _ _ | .swAdvance
  | .adcDelete _ | .adcRdf _ _ | .adcAdvance
  | .pdsSync _ _ | .pdsSyncAll _ | .pdsRestart _ | .pdsStop _ | .pdsDelete _ | .pdsSetInvert _ _ | .pdsRdf _ _
  | .pdsAdvance => (0, 0, 0, 0)

/-! ### The terms of the laws -/

/-- What a state knows of the bytes a queue holds, oldest first (R102, R203, R206). -/
def State.queueBytes (s : State) (x : Queue) : List (Option Byte) :=
  (List.range x.count.toNat).map fun k => s.byteAt (x.base.toNat + (x.get.toNat + k) % x.cap.toNat)

/-- A host operation on one queue. -/
inductive QueueOp where
  | put (b : Byte)
  | get
  deriving DecidableEq, Repr

/-- The command that performs an operation on queue `q`. -/
def QueueOp.instr (q : Byte) : QueueOp → Instr
  | .put b => .qPut q b
  | .get => .qGet q

/-- What the host sees, RES and RDATA, after each command of a list. -/
def commandTrace : List Instr → State → List (ResultCode × Word)
  | [], _ => []
  | i :: is, s =>
    match exec i s with
    | .next t => (t.res, t.rdata) :: commandTrace is t
    | .fault _ => []
    | .refused _ => []

/-- What the host would see of an ideal FIFO of `cap` bytes that holds `l`, oldest first, with RDATA at `d` (R202). -/
def fifoTrace (cap : Nat) : List QueueOp → List Byte → Word → List (ResultCode × Word)
  | [], _, _ => []
  | .put b :: ops, l, d =>
    if l.length = cap then (.queueFull, d) :: fifoTrace cap ops l d else (.ok, d) :: fifoTrace cap ops (l ++ [b]) d
  | .get :: ops, [], d => (.queueEmpty, d) :: fifoTrace cap ops [] d
  | .get :: ops, b :: l, _ => (.ok, b.setWidth 32) :: fifoTrace cap ops l (b.setWidth 32)

/-- The bytes a line record of port `x` stands for: its bytes, and the terminator after a line that was not ended by a
full buffer (R281, R284). -/
def lineText (x : Port) : Record → List Byte
  | .serLine _ _ len bytes => bytes ++ if len.toNat < x.lsize.toNat then [x.term] else []
  | .tmrAlarm .. | .swEvent .. | .adcChange .. | .adcSample .. | .serByte .. | .pinSet .. | .txByte .. => []

/-- What the receivers of port `p` do with a list of bytes, one after the other: the port after them and the records. -/
def receiveRun (p : Nat) : Port → List Byte → Port × List Record
  | x, [] => (x, [])
  | x, b :: bs =>
    let r := receiveByte p x b
    let t := receiveRun p r.1 bs
    (t.1, r.2 ++ t.2)

/-- The byte of a byte-receiver record. -/
def byteText : Record → Option Byte
  | .serByte _ _ b => some b
  | .tmrAlarm .. | .swEvent .. | .adcChange .. | .adcSample .. | .serLine .. | .pinSet .. | .txByte .. => none

/-- A record is an alarm of timer `i`. -/
def isAlarm (i : Byte) : Record → Bool
  | .tmrAlarm j _ _ => decide (j = i)
  | .swEvent .. | .adcChange .. | .adcSample .. | .serByte .. | .serLine .. | .pinSet .. | .txByte .. => false

/-- A record is a change report. -/
def isChange : Record → Bool
  | .adcChange .. => true
  | .tmrAlarm .. | .swEvent .. | .adcSample .. | .serByte .. | .serLine .. | .pinSet .. | .txByte .. => false

/-- A record is a sample report. -/
def isSample : Record → Bool
  | .adcSample .. => true
  | .tmrAlarm .. | .swEvent .. | .adcChange .. | .serByte .. | .serLine .. | .pinSet .. | .txByte .. => false

/-- One switch over a list of samples, one per pass: the switch after them and its records. -/
def switchRun (i : Nat) : Switch → List Bool → Switch × List Record
  | x, [] => (x, [])
  | x, a :: as =>
    let r := switchStep i x a
    let t := switchRun i r.1 as
    (t.1, r.2 ++ t.2)

/-- The sample of a switch whose pin draw answers `l` (R370, R371): whether it is active, and the switch with its data
field written. -/
def switchSample (s : State) (x : Switch) (l : Bool) : Bool × Switch :=
  match x.mode with
  | .digital => (l == x.onLevel, { x with data := (BitVec.ofBool l).setWidth 10 })
  | .analog => sampleAnalog x s

/-- One analog channel over a list of readings, one per pass: the channel after them and its records. -/
def channelRun (i : Nat) : Channel → List Sample → Channel × List Record
  | x, [] => (x, [])
  | x, v :: vs =>
    let r := channelStep i x v
    let t := channelRun i r.1 vs
    (t.1, r.2 ++ t.2)

/-- One generator over `n` passes: the generator after them and its records. -/
def pulseRun : Nat → Pulse → Pulse × List Record
  | 0, x => (x, [])
  | n + 1, x =>
    let r := pulseRun n x
    let t := pulseStep r.1
    (t.1, r.2 ++ t.2)

/-- The generator with the opposite polarity (R502). -/
def Pulse.inverted (x : Pulse) : Pulse := { x with inv := !x.inv, out := !x.out }

/-- A pin record with the opposite level; every other record as it is. -/
def Record.inverted : Record → Record
  | .pinSet p l => .pinSet p (!l)
  | r => r

/-! ### Safe runs -/

/-- An input that the machine has a step for: every host register access is 32 bits wide at a multiple of 4 (R108). -/
def inputOk (i : Input) : Bool :=
  match i with
  | .write off width _ => accessOk off width
  | .read off width => accessOk off width
  | _ => true

/-- Every input still to come has a step. -/
def SafeInputs (s : State) : Prop := ∀ i ∈ s.inputs, inputOk i = true

/-- An answer that neither faults nor is refused. -/
def Answered (o : Host.Outcome State Fault Refusal) : Prop := ∃ t, o = .next t

/-- A state from which no run ever stops: whatever the number of steps, it neither faults nor is refused. -/
def SafeFrom (s : State) : Prop := ∀ k, Answered (Sys2Proof.core.run k s)

end Sys2Proof.Machine
end

