-- ==== Sys2Proof/Certificates/Slice0/Obligations.lean ====
section
/-! DEFINITION. The statements for the provers. Every one is about the machine, none about a program. -/

open Sys2Proof Sys2Proof.Machine

/-! ### The command word -/

/-- Decode and encode agree (R141, R143, R145, R150): every command's encoding decodes to it, and a word decodes to a
command exactly when it carries that command's encoding in the bits the command reads; the other bits are ignored. -/
def Obligations.DecodeAndEncodeAgree : Prop :=
  ∀ i : Instr, decode (encode i) = .ok i ∧ ∀ w : Word, decode w = .ok i ↔ w &&& readMask i = encode i

/-- R147: the reserved OPC values are exactly the listed ones; a command with one finishes with GenericError and changes
nothing else (`c` is the write-only CMD). -/
def Obligations.ReservedOpcodes : Prop :=
  ∀ w : Word,
    let n := (opcOf w).toNat
    let reserved := (0x07 ≤ n ∧ n ≤ 0x0F) ∨ (0x18 ≤ n ∧ n ≤ 0x1F) ∨ (0x29 ≤ n ∧ n ≤ 0x2E) ∨ (0x3B ≤ n ∧ n ≤ 0x3E) ∨
      (0x45 ≤ n ∧ n ≤ 0x4E) ∨ (0x54 ≤ n ∧ n ≤ 0x5E) ∨ n = 0x6E ∨ 0x70 ≤ n
    (decode w = .error (.reservedOpcode (opcOf w)) ↔ reserved) ∧
    ∀ (s : State) (rest : List Input), s.inputs = .write 0x00 .word w :: rest → busy s = false → reserved →
      ∃ c, step s = .next { s with inputs := rest, cmd := c, res := .genericError, active := none }

/-- A few command words written out from R141 and the table of R145 decode to their commands; the first of the timer
words is the example of R152. -/
def Obligations.ListedWordsDecode : Prop :=
  decode 0x00000000 = .ok .nop ∧
  decode 0x00AB1234 = .ok .nop ∧
  decode 0x3002000A = .ok (.tmrCreateInterval 2 10) ∧
  decode 0x11030041 = .ok (.qPut 3 0x41) ∧
  decode 0x1103FF41 = .ok (.qPut 3 0x41) ∧
  decode 0x21008004 = .ok (.serAttachLine 0 0x8004) ∧
  decode 0x3805FFFF = .ok (.tmrSetMode 5 .timeout) ∧
  decode 0x40018005 = .ok (.swCreateDigital 1 0x8005) ∧
  decode 0x53000008 = .ok (.adcRdf 0 8) ∧
  decode 0x67020103 = .ok (.pdsSync 2 3) ∧
  decode 0x6C010001 = .ok (.pdsSetInvert 1 true)

/-! ### The step and the host interface -/

/-- A step runs the decoded command: the host's write of a command word to CMD while BUSY is 0 is one `exec` of what the
word decodes to (R141); the model adds that the input is used up and CMD takes the word (log 7). The second clause says
the same of `withFetchWord`. -/
def Obligations.StepRunsTheDecodedCommand : Prop :=
  (∀ (s : State) (w : Word) (rest : List Input) (i : Instr),
    s.inputs = .write 0x00 .word w :: rest → busy s = false → decode w = .ok i →
      step s = exec i { s with inputs := rest, cmd := w }) ∧
  ∀ (s : State) (nbits w : Nat) (i : Instr), decodeTableWord nbits w = some i →
    step (s.withFetchWord nbits w) = exec i { s with active := none, cmd := BitVec.ofNat 32 (w % 2 ^ nbits) }

/-- The steps that are neither a register access nor an interrupt (R527, R153; the form of the inputs is the model's,
logs 2 and 3): `run`, the empty schedule and a `wait` on a busy block take the command's next sub-step, and an announcement
of the environment touches the environment alone. That an idle block with nothing left to do stays as it is, is the model's
choice and no rule of the spec (log 16). -/
def Obligations.StepWithoutAnAccess : Prop :=
  ∀ (s : State) (rest : List Input),
    (s.inputs = [] → step s = .next (advance s)) ∧
    (s.inputs = .run :: rest → step s = .next (advance { s with inputs := rest })) ∧
    (s.inputs = .wait :: rest → busy s = true → step s = .next (advance s)) ∧
    (s.inputs = .wait :: rest → busy s = false → step s = .next { s with inputs := rest }) ∧
    (s.active = none → advance s = s) ∧
    (∀ p ls, s.inputs = .pin p ls :: rest → ∃ e, step s = .next { s with inputs := rest, env := e } ∧
      Table.lookup p.toNat e.pins = some ls) ∧
    (∀ c vs, s.inputs = .adc c vs :: rest → ∃ e, step s = .next { s with inputs := rest, env := e } ∧
      Table.lookup c.toNat e.adcs = some vs) ∧
    (∀ p bs, s.inputs = .txReady p bs :: rest → ∃ e, step s = .next { s with inputs := rest, env := e } ∧
      Table.lookup p.toNat e.txs = some bs)

/-- The host registers (R32, R33, R35, R106, R109): an aligned 32-bit read returns the register and changes nothing
else; a write sets an ARG register while BUSY is 0, and CMD and the ARG registers ignore a write while BUSY is 1, as a
reserved offset does at any time. Two things are the model's and not the spec's: that a write to the read-only RES, RDATA
and BUSY has no effect is its reading of R32 (log 8), whether BUSY is 0 or 1, and the word read goes to its own field
`hostData` (log 12). -/
def Obligations.HostRegisters : Prop :=
  ∀ (s : State) (rest : List Input) (off v : Word), off.toNat % 4 = 0 →
    (s.inputs = .read off .word :: rest →
      (off.toNat = 0x00 → step s = .next { s with inputs := rest, hostData := 0 }) ∧
      (off.toNat = 0x04 → step s = .next { s with inputs := rest, hostData := s.arg0 }) ∧
      (off.toNat = 0x08 → step s = .next { s with inputs := rest, hostData := s.arg1 }) ∧
      (off.toNat = 0x0C → step s = .next { s with inputs := rest, hostData := s.arg2 }) ∧
      (off.toNat = 0x10 → step s = .next { s with inputs := rest, hostData := s.arg3 }) ∧
      (off.toNat = 0x14 → step s = .next { s with inputs := rest, hostData := s.res.code.setWidth 32 }) ∧
      (off.toNat = 0x18 → step s = .next { s with inputs := rest, hostData := s.rdata }) ∧
      (off.toNat = 0x1C → step s = .next { s with inputs := rest, hostData := if busy s then 1 else 0 }) ∧
      (0x20 ≤ off.toNat → step s = .next { s with inputs := rest, hostData := 0 })) ∧
    (s.inputs = .write off .word v :: rest →
      (busy s = true → step s = .next { s with inputs := rest }) ∧
      (busy s = false →
        (off.toNat = 0x04 → step s = .next { s with inputs := rest, arg0 := v }) ∧
        (off.toNat = 0x08 → step s = .next { s with inputs := rest, arg1 := v }) ∧
        (off.toNat = 0x0C → step s = .next { s with inputs := rest, arg2 := v }) ∧
        (off.toNat = 0x10 → step s = .next { s with inputs := rest, arg3 := v }) ∧
        (0x14 ≤ off.toNat → step s = .next { s with inputs := rest }))) ∧
    ResultCode.ok.code = 0 ∧ ResultCode.genericError.code = 1 ∧ ResultCode.invalidArgument.code = 2 ∧
    ResultCode.queueEmpty.code = 3 ∧ ResultCode.queueFull.code = 4

/-- A host access that is not 32 bits wide or not at a multiple of 4 has no step (R108): the model stops with a named
fault (log 6). -/
def Obligations.IllegalHostAccessStops : Prop :=
  ∀ (s : State) (rest : List Input) (off v : Word) (width : AccessWidth), width ≠ .word ∨ off.toNat % 4 ≠ 0 →
    (s.inputs = .read off width :: rest → step s = .fault (.hostAccess off width)) ∧
    (s.inputs = .write off width v :: rest → step s = .fault (.hostAccess off width))

/-! ### Interrupts -/

/-- R520: a TICK event counts TICK up mod 2^32 and changes nothing else. -/
def Obligations.TickInterrupt : Prop :=
  ∀ (s : State) (rest : List Input), s.inputs = .tick :: rest →
    step s = .next { s with inputs := rest, tick := s.tick + 1 }

/-- R210: an RX event puts its byte into Q[2p]; on an uninitialised or a full queue the byte is dropped. -/
def Obligations.RxInterrupt : Prop :=
  ∀ (s : State) (rest : List Input) (p b : Byte) (x : Queue), s.inputs = .rx p b :: rest →
    p.toNat < s.ports.length → s.queues[2 * p.toNat]? = some x →
    (x.cap = 0 → step s = .next { s with inputs := rest }) ∧
    (x.cap ≠ 0 → x.count = x.cap → step s = .next { s with inputs := rest }) ∧
    (x.cap ≠ 0 → x.count ≠ x.cap → step s = .next { s with
      inputs := rest
      qmem := Table.insert (x.base.toNat + x.put.toNat) b s.qmem
      queues := s.queues.set (2 * p.toNat) { x with
        put := BitVec.ofNat 16 ((x.put.toNat + 1) % x.cap.toNat), count := x.count + 1 } })

/-- R112: the interrupt context writes only TICK, and for the RX interrupt of port p the put cursor, the count and one
QMEM byte, at the put cursor, of Q[2p]. -/
def Obligations.InterruptFrame : Prop :=
  ∀ (s t : State) (rest : List Input), step s = .next t →
    (s.inputs = .tick :: rest → t = { s with inputs := rest, tick := t.tick }) ∧
    ∀ p b, s.inputs = .rx p b :: rest →
      t = { s with inputs := rest, queues := t.queues, qmem := t.qmem } ∧
      (∀ j, j ≠ 2 * p.toNat → t.queues[j]? = s.queues[j]?) ∧
      (s.queues[2 * p.toNat]? = none → ∀ a, t.byteAt a = s.byteAt a) ∧
      ∀ x, s.queues[2 * p.toNat]? = some x →
        (∃ put count, t.queues[2 * p.toNat]? = some { x with put := put, count := count }) ∧
        ∀ a, a ≠ x.base.toNat + x.put.toNat → t.byteAt a = s.byteAt a

/-- R583: simultaneous interrupts commute. A TICK and an RX event, and RX events of two ports whose queue windows do not
overlap, give the same state in either order. -/
def Obligations.InterruptsCommute : Prop :=
  ∀ (s : State) (p p' b b' : Byte), s.Inv →
    Sys2Proof.core.run 2 { s with inputs := [.tick, .rx p b] } = Sys2Proof.core.run 2 { s with inputs := [.rx p b, .tick] } ∧
    (p ≠ p' →
      (∀ x y, s.queues[2 * p.toNat]? = some x → s.queues[2 * p'.toNat]? = some y →
        x.base.toNat + x.cap.toNat ≤ y.base.toNat ∨ y.base.toNat + y.cap.toNat ≤ x.base.toNat) →
      Sys2Proof.core.run 2 { s with inputs := [.rx p b, .rx p' b'] } =
        Sys2Proof.core.run 2 { s with inputs := [.rx p' b', .rx p b] })

/-- R527: a TICK taken between two sub-steps only raises PENDING: it commutes with every sub-step of every executing
command. -/
def Obligations.TicksDuringACommand : Prop :=
  ∀ s : State, advance (tickIrq s) = tickIrq (advance s)

/-! ### Reset and the invariant -/

/-- R621: an external reset takes the block to its reset state whatever it is doing; what is outside the block stays
(log 13). -/
def Obligations.ExternalReset : Prop :=
  ∀ (s : State) (rest : List Input), s.inputs = .reset :: rest →
    step s = .next { State.resetOf s.params with inputs := rest, env := s.env, hostData := s.hostData }

/-- What reset leaves (R53, R620, R622, with the reset column of the tables of R32, R39, R40, R42, R44..R47), for every
choice of the parameters: every register, and every field of every object. LB and QMEM are unspecified: nothing is listed
in them (logs 4 and 5). BUSY is 0, OUT is empty, and each bank has the size that the parameters give it (log 1). -/
def Obligations.ResetValues : Prop :=
  ∀ c : Params,
    let s := State.resetOf c
    s.cmd = 0 ∧ s.arg0 = 0 ∧ s.arg1 = 0 ∧ s.arg2 = 0 ∧ s.arg3 = 0 ∧ s.res = .ok ∧ s.rdata = 0 ∧ busy s = false ∧
    s.tick = 0 ∧ s.consumed = 0 ∧ s.clkBase = 0 ∧ s.clkRef = 0 ∧ s.out = [] ∧ (∀ a, s.byteAt a = none) ∧
    s.queues = List.replicate c.nQueue { cap := 0, count := 0, put := 0, get := 0, lerr := .ok, base := 0 } ∧
    s.ports = List.replicate c.nPort
      { be := false, bcb := 0, le := false, lcb := 0, lsize := 0, term := 0, llen := 0, lstate := .idle, lb := [] } ∧
    s.timers = List.replicate c.nTimer
      { state := .deleted, mode := .interval, ticks := 0, reload := 0, alarm := 0, cb := 0 } ∧
    s.switches = List.replicate c.nSwitch
      { valid := false, mode := .digital, src := 0, onLevel := false, onValue := 0, tol := 0, state := .off, cnt := 0,
        rcnt := 0, debounce := 0, hold := 0, rep := 0, data := 0, cb := 0 } ∧
    s.channels = List.replicate c.nAdc
      { en := false, primed := false, ch := 0, shift := 0, raw := 0, min := 0, max := 0, prev := 0, delta := 0, thr := 0,
        evi := 0, evc := 0, si := 0, scnt := 0, ccb := 0, scb := 0 } ∧
    s.pulses = List.replicate c.nPds
      { mode := .low, state := .deleted, pin := 0, inv := false, out := false, head := 0, act := 0, total := 0,
        cycles := 0, rem := 0, phase := 0, stage := .noStage } ∧
    s.qmemSize = c.qmemSize ∧ s.lineMax = c.lineMax

/-- The reset state meets the invariant, for every choice of the parameters in their ranges. -/
def Obligations.ResetMeetsInvariant : Prop :=
  (∀ c : Params, c.wf = true → (State.resetOf c).Inv) ∧ State.reset.Inv

/-- Every step keeps the invariant: the queue invariant of R41, the line-receiver invariant of R43, the ranges of R39,
R44..R47, the counters of R380, R430 and R500 below their bounds, QMEM in canonical form inside its size. -/
def Obligations.StepKeepsInvariant : Prop :=
  ∀ s t : State, s.Inv → step s = .next t → t.Inv

/-- No error stops the block (R572): a run whose host accesses are all 32-bit and aligned never faults and is never
refused. -/
def Obligations.AlignedRunsNeverStop : Prop :=
  ∀ s : State, SafeInputs s → SafeFrom s

/-! ### What no command does -/

/-- The frame of every command: beside RES and its end it writes only the fields its rule names (`mayWrite`); no command
writes ARG0..ARG3 (R33) or RDATA unless its rule says so (R34), no bank changes its size, and OUT only grows (R37). -/
def Obligations.FrameOfEveryCommand : Prop :=
  ∀ (i : Instr) (s t : State), exec i s = .next t →
    t = mayWrite i s t ∧ t.params = s.params ∧ ∃ rs, t.out = s.out ++ rs

/-- The memory frame: a command other than Q_PUT, SER_WRITE and QM_WR leaves every byte of QMEM as it was, and each of
these three changes no byte but the one at the address it stores to: the put slot of its queue, or ARG0[15:0]. -/
def Obligations.StoresTouchOneByte : Prop :=
  ∀ (i : Instr) (s t : State), exec i s = .next t →
    ((∀ q b, i ≠ .qPut q b) → (∀ p b, i ≠ .serWrite p b) → (∀ b, i ≠ .qmWr b) → ∀ a, t.byteAt a = s.byteAt a) ∧
    (∀ q b, i = .qPut q b →
      (s.queues[q.toNat]? = none → ∀ a, t.byteAt a = s.byteAt a) ∧
      ∀ x, s.queues[q.toNat]? = some x → ∀ a, a ≠ slotAddr x x.put → t.byteAt a = s.byteAt a) ∧
    (∀ p b, i = .serWrite p b →
      (s.queues[2 * p.toNat + 1]? = none → ∀ a, t.byteAt a = s.byteAt a) ∧
      ∀ x, s.queues[2 * p.toNat + 1]? = some x → ∀ a, a ≠ slotAddr x x.put → t.byteAt a = s.byteAt a) ∧
    ∀ b, i = .qmWr b → ∀ a, a ≠ (lowHalf s.arg0).toNat → t.byteAt a = s.byteAt a

/-- R572: a command that ends with GenericError or InvalidArgument changes nothing but RES. -/
def Obligations.ErrorsHaveNoPartialEffect : Prop :=
  ∀ (i : Instr) (s t : State), exec i s = .next t → t.active = none →
    t.res = .genericError ∨ t.res = .invalidArgument → t = { s with res := t.res, active := none }

/-- R33, R150: a command reads only the ARG bits its row names: two states that differ in no bit of `argMask` go through
the command in the same way. -/
def Obligations.UnreadArgumentBitsAreIgnored : Prop :=
  ∀ (i : Instr) (s t : State) (b0 b1 b2 b3 : Word), exec i s = .next t →
    s.arg0 &&& (argMask i).1 = b0 &&& (argMask i).1 →
    s.arg1 &&& (argMask i).2.1 = b1 &&& (argMask i).2.1 →
    s.arg2 &&& (argMask i).2.2.1 = b2 &&& (argMask i).2.2.1 →
    s.arg3 &&& (argMask i).2.2.2 = b3 &&& (argMask i).2.2.2 →
    exec i { s with arg0 := b0, arg1 := b1, arg2 := b2, arg3 := b3 } =
      .next { t with arg0 := b0, arg1 := b1, arg2 := b2, arg3 := b3 }

/-! ### System, dispatcher and clock commands -/

/-- NOP (R522) and DSP_CONSUME (R524). -/
def Obligations.NopAndConsume : Prop :=
  ∀ s : State,
    exec .nop s = .next { s with res := .ok, active := none } ∧
    exec .dspConsume s =
      .next { s with rdata := s.tick - s.consumed, consumed := s.tick, res := .ok, active := none }

/-- CLK_SET (R531) and CLK_GET (R532, R530). -/
def Obligations.ClockCommands : Prop :=
  ∀ s : State,
    let ms := (s.arg0.extractLsb' 0 10).toNat
    let sec := (s.arg0.extractLsb' 10 6).toNat
    let m := (s.arg0.extractLsb' 16 6).toNat
    let h := (s.arg0.extractLsb' 22 5).toNat
    let t := (s.clkBase.toNat + (s.tick - s.clkRef).toNat) % 86400000
    (23 < h ∨ 59 < m ∨ 59 < sec ∨ 999 < ms →
      exec .clkSet s = .next { s with res := .invalidArgument, active := none }) ∧
    (h ≤ 23 → m ≤ 59 → sec ≤ 59 → ms ≤ 999 → exec .clkSet s = .next { s with
      clkBase := BitVec.ofNat 32 (((h * 60 + m) * 60 + sec) * 1000 + ms), clkRef := s.tick, res := .ok
      active := none }) ∧
    exec .clkGet s = .next { s with
      rdata := BitVec.ofNat 32 ((t / 3600000) * 2 ^ 22 + (t / 60000 % 60) * 2 ^ 16 + (t / 1000 % 60) * 2 ^ 10 + t % 1000)
      res := .ok, active := none }

/-- The clock runs from its setting (R530, R531, R532): `n` ticks after a CLK_SET, for `n` below 2^32, CLK_GET returns
the time set plus `n` milliseconds, modulo a day. -/
def Obligations.ClockRunsFromItsSetting : Prop :=
  ∀ (s t u : State) (n : Nat), n < 2 ^ 32 → exec .clkSet s = .next t → t.res = .ok →
    exec .clkGet { t with tick := t.tick + BitVec.ofNat 32 n } = .next u →
    let now := (((clkHour s.arg0 * 60 + clkMin s.arg0) * 60 + clkSec s.arg0) * 1000 + clkMs s.arg0 + n) % 86400000
    clkHour u.rdata = now / 3600000 ∧ clkMin u.rdata = now / 60000 % 60 ∧ clkSec u.rdata = now / 1000 % 60 ∧
    clkMs u.rdata = now % 1000

/-- DSP_PASS and DSP_RUN start (R527; that the CMD write takes the first sub-step is log 9): the timer pass of the round,
and the consumption of the pending ticks. BUSY is 1 after each. -/
def Obligations.DispatchCommandsStart : Prop :=
  ∀ s : State,
    exec .dspPass s = .next { timerPass s with active := some (.dspPass (some .switch)) } ∧
    exec .dspRun s = .next { s with
      consumed := s.tick
      active := some (.dspRun (s.tick - s.consumed) (s.tick - s.consumed).toNat .timer) }

/-- DSP_PASS (R525, R523, R527): undisturbed, its sub-steps are one round, in the fixed order of the passes, and BUSY is
1 until the finish. The count of steps is the model's reading (log 9): the CMD write takes the timer pass, and the finish,
before which BUSY is still 1, is a sub-step of its own after the serial pass. -/
def Obligations.DspPassRunsOneRound : Prop :=
  ∀ s : State, s.inputs = [] → ∃ t, exec .dspPass s = .next t ∧
    Sys2Proof.core.run 5 t = .next { serialPass (pulsePass (analogPass (switchPass (timerPass s)))) with
      res := .ok, active := none } ∧
    ∀ k < 5, ∃ u, Sys2Proof.core.run k t = .next u ∧ busy u = true ∧ u.res = s.res ∧ u.rdata = s.rdata

/-- DSP_RUN (R526, R523, R527): undisturbed, it runs one round for each of the n pending ticks, 5n pass sub-steps, then
returns n; BUSY is 1 and RES and RDATA keep their values until then. That sub-step 0 falls into the step of the CMD write,
so that 5n + 1 steps are left, is the model's reading (log 9). -/
def Obligations.DspRunRunsARoundPerTick : Prop :=
  ∀ s : State, s.inputs = [] → ∃ t, exec .dspRun s = .next t ∧
    let n := (s.tick - s.consumed).toNat
    Sys2Proof.core.run (5 * n + 1) t = .next { (Sys2Proof.Machine.round^[n] { s with consumed := s.tick }) with
      rdata := s.tick - s.consumed, res := .ok, active := none } ∧
    (∀ k < 5 * n + 1, ∃ u, Sys2Proof.core.run k t = .next u ∧ busy u = true ∧ u.res = s.res ∧ u.rdata = s.rdata) ∧
    ∀ v, Sys2Proof.Machine.round v = serialPass (pulsePass (analogPass (switchPass (timerPass v))))

/-! ### Field reads -/

/-- The field reads of the system registers (R528), the queues (R211) and the ports (R269): each selector's value, and
InvalidArgument for an unlisted selector or an identifier out of range. -/
def Obligations.FieldReadsOfSystemQueuesPorts : Prop :=
  ∀ (s : State) (j sel : Byte),
    (∀ k v, (k, v) ∈ [(0, s.tick), (1, s.consumed), (2, s.tick - s.consumed), (3, s.clkBase), (4, s.clkRef)] →
      sel.toNat = k → exec (.sysRdf sel) s = .next { s with rdata := v, res := .ok, active := none }) ∧
    (5 ≤ sel.toNat → exec (.sysRdf sel) s = .next { s with res := .invalidArgument, active := none }) ∧
    (∀ x, s.queues[j.toNat]? = some x →
      (∀ k v, (k, v) ∈ [(0, x.cap.setWidth 32), (1, x.count.setWidth 32), (2, x.put.setWidth 32),
          (3, x.get.setWidth 32), (4, x.lerr.code.setWidth 32), (5, x.base.setWidth 32)] →
        sel.toNat = k → exec (.qRdf j sel) s = .next { s with rdata := v, res := .ok, active := none }) ∧
      (6 ≤ sel.toNat → exec (.qRdf j sel) s = .next { s with res := .invalidArgument, active := none })) ∧
    (s.queues.length ≤ j.toNat → exec (.qRdf j sel) s = .next { s with res := .invalidArgument, active := none }) ∧
    (∀ x, s.ports[j.toNat]? = some x →
      (∀ k v, (k, v) ∈ [(0, if x.be then 1 else 0), (1, x.bcb.setWidth 32), (2, if x.le then 1 else 0),
          (3, x.lcb.setWidth 32), (4, x.lsize.setWidth 32), (5, x.term.setWidth 32), (6, x.llen.setWidth 32),
          (7, if x.lstate = .accumulating then 1 else 0)] →
        sel.toNat = k → exec (.serRdf j sel) s = .next { s with rdata := v, res := .ok, active := none }) ∧
      (8 ≤ sel.toNat → exec (.serRdf j sel) s = .next { s with res := .invalidArgument, active := none })) ∧
    (s.ports.length ≤ j.toNat → exec (.serRdf j sel) s = .next { s with res := .invalidArgument, active := none })

/-- The field reads of the timers (R311) and the switches (R356), with the codes of R44 and R45. -/
def Obligations.FieldReadsOfTimersSwitches : Prop :=
  ∀ (s : State) (j sel : Byte),
    (∀ x, s.timers[j.toNat]? = some x →
      (∀ k v, (k, v) ∈ [
          (0, match x.state with | .deleted => 0 | .running => 1 | .paused => 2 | .stopped => 3),
          (1, match x.mode with | .interval => 0 | .timeout => 1),
          (2, x.ticks.setWidth 32), (3, x.reload.setWidth 32), (4, x.alarm), (5, x.cb.setWidth 32)] →
        sel.toNat = k → exec (.tmrRdf j sel) s = .next { s with rdata := v, res := .ok, active := none }) ∧
      (6 ≤ sel.toNat → exec (.tmrRdf j sel) s = .next { s with res := .invalidArgument, active := none })) ∧
    (s.timers.length ≤ j.toNat → exec (.tmrRdf j sel) s = .next { s with res := .invalidArgument, active := none }) ∧
    (∀ x, s.switches[j.toNat]? = some x →
      (∀ k v, (k, v) ∈ [
          (0, if x.valid then 1 else 0), (1, match x.mode with | .digital => 0 | .analog => 1),
          (2, x.src.setWidth 32), (3, if x.onLevel then 1 else 0), (4, x.onValue.setWidth 32),
          (5, x.tol.setWidth 32), (6, match x.state with | .off => 0 | .on => 1 | .hold => 2 | .repeating => 3),
          (7, x.cnt.setWidth 32), (8, x.rcnt.setWidth 32), (9, x.debounce.setWidth 32), (10, x.hold.setWidth 32),
          (11, x.rep.setWidth 32), (12, x.data.setWidth 32), (13, x.cb.setWidth 32)] →
        sel.toNat = k → exec (.swRdf j sel) s = .next { s with rdata := v, res := .ok, active := none }) ∧
      (14 ≤ sel.toNat → exec (.swRdf j sel) s = .next { s with res := .invalidArgument, active := none })) ∧
    (s.switches.length ≤ j.toNat → exec (.swRdf j sel) s = .next { s with res := .invalidArgument, active := none })

/-- The field reads of the analog channels (R405; delta is sign-extended) and the generators (R467; selector 8 is the
derived tail), with the codes of R47. -/
def Obligations.FieldReadsOfChannelsGenerators : Prop :=
  ∀ (s : State) (j sel : Byte),
    (∀ x, s.channels[j.toNat]? = some x →
      (∀ k v, (k, v) ∈ [
          (0, if x.en then 1 else 0), (1, if x.primed then 1 else 0), (2, x.ch.setWidth 32), (3, x.shift.setWidth 32),
          (4, x.raw.setWidth 32), (5, x.min.setWidth 32), (6, x.max.setWidth 32), (7, x.prev.setWidth 32),
          (8, BitVec.ofInt 32 x.delta.toInt), (9, x.thr.setWidth 32), (10, x.evi.setWidth 32), (11, x.evc.setWidth 32),
          (12, x.si.setWidth 32), (13, x.scnt.setWidth 32), (14, x.ccb.setWidth 32), (15, x.scb.setWidth 32)] →
        sel.toNat = k → exec (.adcRdf j sel) s = .next { s with rdata := v, res := .ok, active := none }) ∧
      (16 ≤ sel.toNat → exec (.adcRdf j sel) s = .next { s with res := .invalidArgument, active := none })) ∧
    (s.channels.length ≤ j.toNat → exec (.adcRdf j sel) s = .next { s with res := .invalidArgument, active := none }) ∧
    (∀ x, s.pulses[j.toNat]? = some x →
      (∀ k v, (k, v) ∈ [
          (0, match x.mode with
            | .low => 0 | .high => 1 | .idle => 2 | .oneshot => 3 | .repeating => 4 | .continuous => 5),
          (1, match x.state with | .deleted => 0 | .running => 1 | .completed => 2),
          (2, x.pin.setWidth 32), (3, if x.inv then 1 else 0), (4, if x.out then 1 else 0), (5, x.head.setWidth 32),
          (6, x.act.setWidth 32), (7, x.total.setWidth 32), (8, (x.total - x.head - x.act).setWidth 32),
          (9, x.cycles.setWidth 32), (10, x.rem.setWidth 32), (11, x.phase.setWidth 32),
          (12, match x.stage with | .head => 0 | .active => 1 | .tail => 2 | .noStage => 3)] →
        sel.toNat = k → exec (.pdsRdf j sel) s = .next { s with rdata := v, res := .ok, active := none }) ∧
      (13 ≤ sel.toNat → exec (.pdsRdf j sel) s = .next { s with res := .invalidArgument, active := none })) ∧
    (s.pulses.length ≤ j.toNat → exec (.pdsRdf j sel) s = .next { s with res := .invalidArgument, active := none })

/-! ### Ring queues and QMEM -/

/-- Q_INIT (R200): base is ARG0[15:0] and length ARG1[15:0], and the bytes of the window are not touched. -/
def Obligations.QInitResult : Prop :=
  ∀ (s : State) (q : Byte),
    let base := s.arg0.extractLsb' 0 16
    let len := s.arg1.extractLsb' 0 16
    (s.queues.length ≤ q.toNat ∨ len = 0 ∨ s.qmemSize < base.toNat + len.toNat →
      exec (.qInit q) s = .next { s with res := .invalidArgument, active := none }) ∧
    (q.toNat < s.queues.length → len ≠ 0 → base.toNat + len.toNat ≤ s.qmemSize →
      exec (.qInit q) s = .next { s with
        queues := s.queues.set q.toNat { cap := len, count := 0, put := 0, get := 0, lerr := .ok, base := base }
        res := .ok, active := none })

/-- Q_PUT (R205 with R201, R203 and R204): QCheck, the full queue, and the byte stored in the put slot. -/
def Obligations.QPutResult : Prop :=
  ∀ (s : State) (q b : Byte),
    (s.queues.length ≤ q.toNat → exec (.qPut q b) s = .next { s with res := .invalidArgument, active := none }) ∧
    ∀ x, s.queues[q.toNat]? = some x →
      (x.cap = 0 → exec (.qPut q b) s = .next { s with res := .invalidArgument, active := none }) ∧
      (x.cap ≠ 0 → x.count = x.cap → exec (.qPut q b) s = .next { s with
        queues := s.queues.set q.toNat { x with lerr := .queueFull }, res := .queueFull, active := none }) ∧
      (x.cap ≠ 0 → x.count ≠ x.cap → exec (.qPut q b) s = .next { s with
        qmem := Table.insert (x.base.toNat + x.put.toNat) b s.qmem
        queues := s.queues.set q.toNat { x with
          put := BitVec.ofNat 16 ((x.put.toNat + 1) % x.cap.toNat), count := x.count + 1, lerr := .ok }
        res := .ok, active := none })

/-- Q_GET (R207 with R201, R204 and R206): QCheck, the empty queue, and the byte in the get slot. A byte that nothing has
written since reset reads as any value (R105): then the statement says nothing of `v`. -/
def Obligations.QGetResult : Prop :=
  ∀ (s : State) (q : Byte),
    (s.queues.length ≤ q.toNat → exec (.qGet q) s = .next { s with res := .invalidArgument, active := none }) ∧
    ∀ x, s.queues[q.toNat]? = some x →
      (x.cap = 0 → exec (.qGet q) s = .next { s with res := .invalidArgument, active := none }) ∧
      (x.cap ≠ 0 → x.count = 0 → exec (.qGet q) s = .next { s with
        queues := s.queues.set q.toNat { x with lerr := .queueEmpty }, res := .queueEmpty, active := none }) ∧
      (x.cap ≠ 0 → x.count ≠ 0 → ∃ (v : Byte) (e : Env),
        (∀ w, s.byteAt (x.base.toNat + x.get.toNat) = some w → v = w ∧ e = s.env) ∧
        exec (.qGet q) s = .next { s with
          queues := s.queues.set q.toNat { x with
            get := BitVec.ofNat 16 ((x.get.toNat + 1) % x.cap.toNat), count := x.count - 1, lerr := .ok }
          rdata := v.setWidth 32, env := e, res := .ok, active := none })

/-- Q_SPACE (R208) and Q_RESET (R209): the free slots of a queue that holds no more than its capacity; a reset keeps
capacity, base and the bytes, and makes the space the capacity. -/
def Obligations.QSpaceAndReset : Prop :=
  ∀ (s : State) (q : Byte),
    (s.queues.length ≤ q.toNat ∨ (∃ x, s.queues[q.toNat]? = some x ∧ x.cap = 0) →
      exec (.qSpace q) s = .next { s with res := .invalidArgument, active := none } ∧
      exec (.qReset q) s = .next { s with res := .invalidArgument, active := none }) ∧
    ∀ x, s.queues[q.toNat]? = some x → x.cap ≠ 0 →
      (x.count.toNat ≤ x.cap.toNat → exec (.qSpace q) s = .next { s with
        rdata := BitVec.ofNat 32 (x.cap.toNat - x.count.toNat), res := .ok, active := none }) ∧
      ∃ t, exec (.qReset q) s = .next t ∧
        t = { s with
          queues := s.queues.set q.toNat { x with count := 0, put := 0, get := 0, lerr := .ok }
          res := .ok, active := none } ∧
        exec (.qSpace q) t = .next { t with rdata := x.cap.setWidth 32, res := .ok, active := none }

/-- QM_RD (R220) and QM_WR (R221): the address is ARG0[15:0]; no cursor moves. A byte that nothing has written since reset
reads as any value (R105). -/
def Obligations.DirectQmemAccess : Prop :=
  ∀ (s : State) (b : Byte),
    let a := (s.arg0.extractLsb' 0 16).toNat
    (s.qmemSize ≤ a →
      exec .qmRd s = .next { s with res := .invalidArgument, active := none } ∧
      exec (.qmWr b) s = .next { s with res := .invalidArgument, active := none }) ∧
    (a < s.qmemSize →
      (∃ (v : Byte) (e : Env), (∀ w, s.byteAt a = some w → v = w ∧ e = s.env) ∧
        exec .qmRd s = .next { s with rdata := v.setWidth 32, env := e, res := .ok, active := none }) ∧
      ∃ t, exec (.qmWr b) s = .next t ∧ t = { s with qmem := t.qmem, res := .ok, active := none } ∧
        t.byteAt a = some b ∧ ∀ c, c ≠ a → t.byteAt c = s.byteAt c)

/-- The FIFO law (R202): a queue that satisfies its invariant and holds the bytes `bs` answers every sequence of Q_PUT and
Q_GET as an ideal FIFO of its capacity does, in RES and in RDATA, so the k-th successful get returns the k-th byte put. -/
def Obligations.QueueIsAFifo : Prop :=
  ∀ (s : State) (q : Byte) (x : Queue) (bs : List Byte) (ops : List QueueOp),
    s.queues[q.toNat]? = some x → x.cap ≠ 0 → QueueInv s.qmemSize x → s.queueBytes x = bs.map some →
      commandTrace (ops.map (QueueOp.instr q)) s = fifoTrace x.cap.toNat ops bs s.rdata

/-! ### Serial ports -/

/-- SER_ATTACH_BYTE, SER_ATTACH_LINE, SER_DETACH_BYTE and SER_DETACH_LINE (R252..R255, R251). -/
def Obligations.ReceiverConfiguration : Prop :=
  ∀ (s : State) (p : Byte) (cbw : Half),
    let size := s.arg0.extractLsb' 0 16
    (s.ports.length ≤ p.toNat →
      exec (.serAttachByte p cbw) s = .next { s with res := .invalidArgument, active := none } ∧
      exec (.serAttachLine p cbw) s = .next { s with res := .invalidArgument, active := none } ∧
      exec (.serDetachByte p) s = .next { s with res := .invalidArgument, active := none } ∧
      exec (.serDetachLine p) s = .next { s with res := .invalidArgument, active := none }) ∧
    (size = 0 ∨ s.lineMax < size.toNat →
      exec (.serAttachLine p cbw) s = .next { s with res := .invalidArgument, active := none }) ∧
    ∀ x, s.ports[p.toNat]? = some x →
      exec (.serAttachByte p cbw) s = .next { s with
        ports := s.ports.set p.toNat { x with be := true, bcb := cbw }, res := .ok, active := none } ∧
      (size ≠ 0 → size.toNat ≤ s.lineMax → exec (.serAttachLine p cbw) s = .next { s with
        ports := s.ports.set p.toNat { x with
          le := true, lcb := cbw, lsize := size, term := s.arg0.extractLsb' 16 8, llen := 0, lstate := .idle }
        res := .ok, active := none }) ∧
      exec (.serDetachByte p) s = .next { s with
        ports := s.ports.set p.toNat { x with be := false }, res := .ok, active := none } ∧
      exec (.serDetachLine p) s = .next { s with
        ports := s.ports.set p.toNat { x with le := false, llen := 0, lstate := .idle }, res := .ok, active := none }

/-- SER_WRITE (R264) on Q[2p+1] and SER_READ (R267) on Q[2p], with the checks of R251 and R201. -/
def Obligations.SerialWriteAndRead : Prop :=
  ∀ (s : State) (p b : Byte),
    (s.ports.length ≤ p.toNat →
      exec (.serWrite p b) s = .next { s with res := .invalidArgument, active := none } ∧
      exec (.serRead p) s = .next { s with res := .invalidArgument, active := none }) ∧
    (∀ x, s.queues[2 * p.toNat + 1]? = some x →
      (x.cap = 0 → exec (.serWrite p b) s = .next { s with res := .invalidArgument, active := none }) ∧
      (p.toNat < s.ports.length → x.cap ≠ 0 → x.count = x.cap → exec (.serWrite p b) s = .next { s with
        queues := s.queues.set (2 * p.toNat + 1) { x with lerr := .queueFull }, res := .queueFull, active := none }) ∧
      (p.toNat < s.ports.length → x.cap ≠ 0 → x.count ≠ x.cap → exec (.serWrite p b) s = .next { s with
        qmem := Table.insert (x.base.toNat + x.put.toNat) b s.qmem
        queues := s.queues.set (2 * p.toNat + 1) { x with
          put := BitVec.ofNat 16 ((x.put.toNat + 1) % x.cap.toNat), count := x.count + 1, lerr := .ok }
        res := .ok, active := none })) ∧
    ∀ x, s.queues[2 * p.toNat]? = some x →
      (x.cap = 0 → exec (.serRead p) s = .next { s with res := .invalidArgument, active := none }) ∧
      (p.toNat < s.ports.length → x.cap ≠ 0 → x.count = 0 → exec (.serRead p) s = .next { s with
        queues := s.queues.set (2 * p.toNat) { x with lerr := .queueEmpty }, res := .queueEmpty, active := none }) ∧
      (p.toNat < s.ports.length → x.cap ≠ 0 → x.count ≠ 0 → ∃ (v : Byte) (e : Env),
        (∀ w, s.byteAt (x.base.toNat + x.get.toNat) = some w → v = w ∧ e = s.env) ∧
        exec (.serRead p) s = .next { s with
          queues := s.queues.set (2 * p.toNat) { x with
            get := BitVec.ofNat 16 ((x.get.toNat + 1) % x.cap.toNat), count := x.count - 1, lerr := .ok }
          rdata := v.setWidth 32, env := e, res := .ok, active := none })

/-- SER_WRITE_SYNC (R266): when TxReady answers true the byte leaves and the command finishes, in one step; when it
answers false the host holds with BUSY 1. The last of a list of announced answers (log 3) is given and kept, one before it
is given and used up. That the first draw falls into the step of the CMD write (log 9), and that every later sub-step is one
more look with one more draw (log 10), is the model's choice. -/
def Obligations.SynchronousWrite : Prop :=
  ∀ (s : State) (p b : Byte),
    (s.ports.length ≤ p.toNat →
      exec (.serWriteSync p b) s = .next { s with res := .invalidArgument, active := none }) ∧
    (p.toNat < s.ports.length →
      (∃ (ready : Bool) (e : Env), exec (.serWriteSync p b) s =
        if ready then .next { s with out := s.out ++ [.txByte p b], env := e, res := .ok, active := none }
        else .next { s with env := e, active := some (.serWriteSync p b) }) ∧
      (Table.lookup p.toNat s.env.txs = some [true] → exec (.serWriteSync p b) s = .next { s with
        out := s.out ++ [.txByte p b], env := { s.env with draws := s.env.draws + 1 }, res := .ok, active := none }) ∧
      (Table.lookup p.toNat s.env.txs = some [false] → exec (.serWriteSync p b) s = .next { s with
        env := { s.env with draws := s.env.draws + 1 }, active := some (.serWriteSync p b) }) ∧
      (∀ ready next later, Table.lookup p.toNat s.env.txs = some (ready :: next :: later) →
        let e := { s.env with
          txs := Table.insert p.toNat (next :: later) s.env.txs, draws := s.env.draws + 1 }
        exec (.serWriteSync p b) s =
          if ready then .next { s with out := s.out ++ [.txByte p b], env := e, res := .ok, active := none }
          else .next { s with env := e, active := some (.serWriteSync p b) })) ∧
    (s.active = some (.serWriteSync p b) → p.toNat < s.ports.length → exec (.serWriteSync p b) s = .next (advance s))

/-- SER_READ_SYNC (R268): with a byte in Q[2p] it is SER_READ; on an empty queue the host holds with BUSY 1 until an RX
byte arrives, and then takes it. That the first look falls into the step of the CMD write (log 9), and that every later
sub-step is one more look, which changes nothing while the queue is empty (log 10), is the model's choice. -/
def Obligations.SynchronousRead : Prop :=
  ∀ (s : State) (p : Byte),
    (s.ports.length ≤ p.toNat →
      exec (.serReadSync p) s = .next { s with res := .invalidArgument, active := none }) ∧
    ∀ x, s.queues[2 * p.toNat]? = some x →
      (x.cap = 0 → exec (.serReadSync p) s = .next { s with res := .invalidArgument, active := none }) ∧
      (p.toNat < s.ports.length → x.cap ≠ 0 → x.count ≠ 0 →
        (∃ (v : Byte) (e : Env), (∀ w, s.byteAt (x.base.toNat + x.get.toNat) = some w → v = w ∧ e = s.env) ∧
          exec (.serReadSync p) s = .next { s with
            queues := s.queues.set (2 * p.toNat) { x with
              get := BitVec.ofNat 16 ((x.get.toNat + 1) % x.cap.toNat), count := x.count - 1, lerr := .ok }
            rdata := v.setWidth 32, env := e, res := .ok, active := none }) ∧
        (s.active = some (.serReadSync p) → exec (.serReadSync p) s = .next (advance s))) ∧
      (p.toNat < s.ports.length → x.cap ≠ 0 → x.count = 0 →
        exec (.serReadSync p) s = .next { s with active := some (.serReadSync p) } ∧
        (s.active = some (.serReadSync p) → advance s = s) ∧
        ∀ b, ∃ t, advance (rxIrq p.toNat b { s with active := some (.serReadSync p) }) = t ∧
          (x.get = x.put → t.rdata = b.setWidth 32 ∧ t.res = .ok ∧ t.active = none))

/-- SER_ADVANCE (R270) is one serial pass: the ports in ascending order, and for each the receive half before the transmit
half (R283). A half whose queue is uninitialised does nothing (R280, R282), nor does the receive half of a port without a
receiver (R280). The pass changes the queues, the ports, OUT and the draws alone; after it the RX queue of a port with a
receiver attached is empty, and that of a port without one is as before. What the halves do is in
ReceiversGetEveryByteInOrder and TransmitSendsAPrefix. -/
def Obligations.SerialPassDrainsReceivers : Prop :=
  (∀ s : State, exec .serAdvance s = .next {
    (List.range s.ports.length).foldl (fun u p => serialTx p (serialRx p u)) s with res := .ok, active := none }) ∧
  (∀ (s : State) (p : Nat) (x : Port) (q : Queue), s.ports[p]? = some x → s.queues[2 * p]? = some q →
    q.cap = 0 ∨ (x.be = false ∧ x.le = false) → serialRx p s = s) ∧
  (∀ (s : State) (p : Nat) (q : Queue), s.queues[2 * p + 1]? = some q → q.cap = 0 → serialTx p s = s) ∧
  ∀ s : State, ∃ t, exec .serAdvance s = .next t ∧
    t = { s with queues := t.queues, ports := t.ports, out := t.out, env := t.env, res := .ok, active := none } ∧
    ∀ (p : Nat) (x : Port) (q : Queue), s.ports[p]? = some x → s.queues[2 * p]? = some q → q.cap ≠ 0 →
      (x.be = true ∨ x.le = true → ∃ q', t.queues[2 * p]? = some q' ∧ q'.count = 0 ∧ q'.lerr = q.lerr) ∧
      (x.be = false → x.le = false → t.queues[2 * p]? = some q)

/-- The serial path delivers (R280, R281, R284). (a) The line receiver, byte by byte: a terminator delivers the line and is
neither stored nor delivered, another byte is stored, and one that fills the buffer delivers it; EN = 0 silences the record
and nothing else. The delivered bytes are LB[0 .. len-1], in receive order. (b) One received byte: the byte receiver's
record stands before the line receiver's. (c) The receive half of the serial pass takes every byte of the RX queue, in
order and once, through (b), leaves the queue empty with lerr as it was, and changes nothing else. (d) So the byte
receiver's records are those bytes, and the line receiver's lines, with the terminator after each line that ended at one,
followed by the partial line left, are the partial line before followed by those bytes. -/
def Obligations.ReceiversGetEveryByteInOrder : Prop :=
  (∀ (p : Byte) (x : Port) (b : Byte),
    let line := fun (len : Half) (bytes : List Byte) =>
      if x.lcb.getLsbD 15 then [Record.serLine p (x.lcb.extractLsb' 0 15) len bytes] else []
    let stored := Table.insert x.llen.toNat b x.lb
    let held := lineBytes p.toNat x x.llen.toNat
    (b = x.term → lineFeed p.toNat x b = ({ x with llen := 0, lstate := .idle }, line x.llen held)) ∧
    (b ≠ x.term → x.llen.toNat + 1 < x.lsize.toNat →
      lineFeed p.toNat x b = ({ x with lb := stored, llen := x.llen + 1, lstate := .accumulating }, [])) ∧
    (b ≠ x.term → x.llen.toNat + 1 = x.lsize.toNat →
      lineFeed p.toNat x b = ({ x with lb := stored, llen := 0, lstate := .idle }, line x.lsize (held ++ [b]))) ∧
    (∀ bs : List Byte, (∀ k < bs.length, Table.lookup k x.lb = bs[k]?) → lineBytes p.toNat x bs.length = bs) ∧
    receiveByte p.toNat x b =
      (if x.le then (lineFeed p.toNat x b).1 else x,
        (if x.be = true ∧ x.bcb.getLsbD 15 = true then [.serByte p (x.bcb.extractLsb' 0 15) b] else []) ++
          if x.le then (lineFeed p.toNat x b).2 else [])) ∧
  ∀ (s : State) (p : Byte) (x : Port) (q : Queue) (bs : List Byte),
    s.ports[p.toNat]? = some x → s.queues[2 * p.toNat]? = some q → q.cap ≠ 0 → QueueInv s.qmemSize q →
    PortInv s.lineMax x → x.be = true ∨ x.le = true → s.queueBytes q = bs.map some →
    let y := (receiveRun p.toNat x bs).1
    let recs := (receiveRun p.toNat x bs).2
    serialRx p.toNat s = { s with
      queues := s.queues.set (2 * p.toNat) { q with get := q.put, count := 0 }
      ports := s.ports.set p.toNat y, out := s.out ++ recs } ∧
    (x.be = true → x.bcb.getLsbD 15 = true → recs.filterMap byteText = bs) ∧
    (x.be = false → recs.filterMap byteText = []) ∧
    (x.le = true → x.lcb.getLsbD 15 = true →
      recs.flatMap (lineText x) ++ lineBytes p.toNat y y.llen.toNat = lineBytes p.toNat x x.llen.toNat ++ bs) ∧
    (x.le = false → y = x)

/-- The transmit half of the serial pass (R282): it sends some number of bytes from the front of the TX queue, in order,
and keeps the rest, with lerr as it was, and changes nothing else but the draws; an announced TxReady (log 3) of
true sends them all, one of false sends none. -/
def Obligations.TransmitSendsAPrefix : Prop :=
  ∀ (s : State) (p : Byte) (q : Queue) (bs : List Byte),
    s.queues[2 * p.toNat + 1]? = some q → q.cap ≠ 0 → QueueInv s.qmemSize q → s.queueBytes q = bs.map some →
    ∃ (k : Nat) (q' : Queue) (e : Env), k ≤ bs.length ∧
      q' = { q with get := BitVec.ofNat 16 ((q.get.toNat + k) % q.cap.toNat), count := BitVec.ofNat 16 (bs.length - k) } ∧
      serialTx p.toNat s = { s with
        queues := s.queues.set (2 * p.toNat + 1) q', out := s.out ++ (bs.take k).map (.txByte p), env := e } ∧
      (serialTx p.toNat s).queueBytes q' = (bs.drop k).map some ∧
      (Table.lookup p.toNat s.env.txs = some [true] → k = bs.length) ∧
      (Table.lookup p.toNat s.env.txs = some [false] → k = 0)

/-! ### Timers -/

/-- TMR_CREATE_INTERVAL (R301) and TMR_CREATE_TIMEOUT (R302), with the checks of R300. -/
def Obligations.TimerCreate : Prop :=
  ∀ (s : State) (i : Byte) (period : Half),
    (s.timers.length ≤ i.toNat ∨ period = 0 →
      exec (.tmrCreateInterval i period) s = .next { s with res := .invalidArgument, active := none } ∧
      exec (.tmrCreateTimeout i period) s = .next { s with res := .invalidArgument, active := none }) ∧
    (i.toNat < s.timers.length → period ≠ 0 →
      exec (.tmrCreateInterval i period) s = .next { s with
        timers := s.timers.set i.toNat { mode := .interval, state := .running, reload := period, ticks := 0, alarm := 0,
                                         cb := s.arg0.extractLsb' 0 16 }
        res := .ok, active := none } ∧
      exec (.tmrCreateTimeout i period) s = .next { s with
        timers := s.timers.set i.toNat { mode := .timeout, state := .running, reload := period, ticks := 0, alarm := 0,
                                         cb := s.arg0.extractLsb' 0 16 }
        res := .ok, active := none })

/-- TMR_START, TMR_STOP, TMR_PAUSE, TMR_RESUME, TMR_DELETE, TMR_SET_PERIOD, TMR_SET_MODE and TMR_SET_CALLBACK
(R303..R310), with the checks of R300: a deleted timer refuses all but TMR_DELETE. -/
def Obligations.TimerControl : Prop :=
  ∀ (s : State) (i : Byte) (period cbw : Half) (mode : TimerMode),
    (s.timers.length ≤ i.toNat ∨ (∃ x, s.timers[i.toNat]? = some x ∧ x.state = .deleted) →
      (∀ c, c ∈ [Instr.tmrStart i, .tmrStop i, .tmrPause i, .tmrResume i, .tmrSetPeriod i period, .tmrSetMode i mode,
          .tmrSetCallback i cbw] → exec c s = .next { s with res := .invalidArgument, active := none })) ∧
    (s.timers.length ≤ i.toNat →
      exec (.tmrDelete i) s = .next { s with res := .invalidArgument, active := none }) ∧
    ∀ x, s.timers[i.toNat]? = some x →
      exec (.tmrDelete i) s = .next { s with
        timers := s.timers.set i.toNat { x with state := .deleted }, res := .ok, active := none } ∧
      (x.state ≠ .deleted →
        exec (.tmrStart i) s = .next { s with
          timers := s.timers.set i.toNat { x with ticks := 0, state := .running }, res := .ok, active := none } ∧
        exec (.tmrStop i) s = .next { s with
          timers := s.timers.set i.toNat { x with state := .stopped }, res := .ok, active := none } ∧
        (x.state = .running → exec (.tmrPause i) s = .next { s with
          timers := s.timers.set i.toNat { x with state := .paused }, res := .ok, active := none }) ∧
        (x.state ≠ .running → exec (.tmrPause i) s = .next { s with res := .genericError, active := none }) ∧
        (x.state = .paused → exec (.tmrResume i) s = .next { s with
          timers := s.timers.set i.toNat { x with state := .running }, res := .ok, active := none }) ∧
        (x.state ≠ .paused → exec (.tmrResume i) s = .next { s with res := .genericError, active := none }) ∧
        (period = 0 → exec (.tmrSetPeriod i period) s = .next { s with res := .invalidArgument, active := none }) ∧
        (period ≠ 0 → exec (.tmrSetPeriod i period) s = .next { s with
          timers := s.timers.set i.toNat { x with reload := period }, res := .ok, active := none }) ∧
        exec (.tmrSetMode i mode) s = .next { s with
          timers := s.timers.set i.toNat { x with mode := mode }, res := .ok, active := none } ∧
        exec (.tmrSetCallback i cbw) s = .next { s with
          timers := s.timers.set i.toNat { x with cb := cbw }, res := .ok, active := none })

/-- TMR_ADVANCE and the timer pass (R312, R330): every timer takes its step, the records stand in index order, and
nothing else changes. The step: a timer that is not running is skipped; a running one counts up, and when it reaches its
period counts and reports an alarm and starts over or stops. -/
def Obligations.TimerPass : Prop :=
  (∀ s : State, exec .tmrAdvance s = .next { s with
    timers := s.timers.mapIdx fun i x => (timerStep i x).1
    out := s.out ++ (s.timers.mapIdx fun i x => (timerStep i x).2).flatten
    res := .ok, active := none }) ∧
  ∀ (i : Nat) (x : Timer),
    (x.state ≠ .running → timerStep i x = (x, [])) ∧
    (x.state = .running → x.ticks + 1 ≠ x.reload → timerStep i x = ({ x with ticks := x.ticks + 1 }, [])) ∧
    (x.state = .running → x.ticks + 1 = x.reload →
      let recs := if x.cb.getLsbD 15 then
        [Record.tmrAlarm (BitVec.ofNat 8 i) (x.cb.extractLsb' 0 15) (x.alarm + 1)] else []
      (x.mode = .interval → timerStep i x = ({ x with ticks := 0, alarm := x.alarm + 1 }, recs)) ∧
      (x.mode = .timeout →
        timerStep i x = ({ x with ticks := x.ticks + 1, alarm := x.alarm + 1, state := .stopped }, recs)))

/-- The timer laws (R331): an interval timer created with period N emits its k-th alarm at its (k·N)-th pass, for every
k; a timeout timer emits exactly one alarm, at its N-th pass, and is stopped from then on. -/
def Obligations.TimerLaws : Prop :=
  ∀ (s : State) (i : Byte) (x : Timer) (m : Nat), s.timers.length ≤ 256 → s.timers[i.toNat]? = some x →
    x.state = .running → x.ticks = 0 → x.alarm = 0 → x.reload ≠ 0 → x.cb.getLsbD 15 = true →
    let t := timerPass^[m] s
    let n := x.reload.toNat
    let tag := x.cb.extractLsb' 0 15
    (x.mode = .interval →
      t.timers[i.toNat]? = some { x with ticks := BitVec.ofNat 16 (m % n), alarm := BitVec.ofNat 32 (m / n) } ∧
      t.out.filter (isAlarm i) = s.out.filter (isAlarm i) ++
        (List.range (m / n)).map fun k => .tmrAlarm i tag (BitVec.ofNat 32 (k + 1))) ∧
    (x.mode = .timeout → m < n →
      t.timers[i.toNat]? = some { x with ticks := BitVec.ofNat 16 m } ∧
      t.out.filter (isAlarm i) = s.out.filter (isAlarm i)) ∧
    (x.mode = .timeout → n ≤ m →
      t.timers[i.toNat]? = some { x with ticks := x.reload, alarm := 1, state := .stopped } ∧
      t.out.filter (isAlarm i) = s.out.filter (isAlarm i) ++ [.tmrAlarm i tag 1])

/-! ### Switches -/

/-- SW_CREATE_DIGITAL (R352), SW_CREATE_ANALOG (R353), SW_DELETE (R354) and SW_SET_CALLBACK (R355), with the checks of
R351. -/
def Obligations.SwitchCommands : Prop :=
  ∀ (s : State) (i : Byte) (cbw : Half),
    let d := s.arg1.extractLsb' 0 16
    let ach := s.arg0.extractLsb' 0 8
    (s.switches.length ≤ i.toNat ∨ d = 0 →
      exec (.swCreateDigital i cbw) s = .next { s with res := .invalidArgument, active := none }) ∧
    (i.toNat < s.switches.length → d ≠ 0 → exec (.swCreateDigital i cbw) s = .next { s with
      switches := s.switches.set i.toNat
        { valid := true, mode := .digital, src := s.arg0.extractLsb' 0 8, onLevel := s.arg0.getLsbD 8, onValue := 0,
          tol := 0, state := .off, cnt := 0, rcnt := 0, debounce := d, hold := s.arg1.extractLsb' 16 16,
          rep := s.arg2.extractLsb' 0 16, data := 0, cb := cbw }
      res := .ok, active := none }) ∧
    (s.switches.length ≤ i.toNat ∨ s.channels.length ≤ ach.toNat ∨ d = 0 →
      exec (.swCreateAnalog i cbw) s = .next { s with res := .invalidArgument, active := none }) ∧
    (i.toNat < s.switches.length → ach.toNat < s.channels.length → d ≠ 0 →
      exec (.swCreateAnalog i cbw) s = .next { s with
        switches := s.switches.set i.toNat
          { valid := true, mode := .analog, src := ach, onLevel := false, onValue := s.arg0.extractLsb' 8 10,
            tol := s.arg0.extractLsb' 18 10, state := .off, cnt := 0, rcnt := 0, debounce := d,
            hold := s.arg1.extractLsb' 16 16, rep := s.arg2.extractLsb' 0 16, data := 0, cb := cbw }
        res := .ok, active := none }) ∧
    (s.switches.length ≤ i.toNat →
      exec (.swDelete i) s = .next { s with res := .invalidArgument, active := none }) ∧
    (s.switches.length ≤ i.toNat ∨ (∃ x, s.switches[i.toNat]? = some x ∧ x.valid = false) →
      exec (.swSetCallback i cbw) s = .next { s with res := .invalidArgument, active := none }) ∧
    ∀ x, s.switches[i.toNat]? = some x →
      exec (.swDelete i) s = .next { s with
        switches := s.switches.set i.toNat { x with valid := false }, res := .ok, active := none } ∧
      (x.valid = true → exec (.swSetCallback i cbw) s = .next { s with
        switches := s.switches.set i.toNat { x with cb := cbw }, res := .ok, active := none })

/-- SW_ADVANCE and the switch pass (R357, R370, R371, R380): every valid switch takes one sample and its step, the records
stand in index order, and nothing else changes but the draws. Here `ls[j]` is the level the environment answers for
switch j; an announced level (log 3) is the answer. The second clause is the analog sample, the third the step of one
switch, for counters that can count up. -/
def Obligations.SwitchPass : Prop :=
  (∀ s : State, ∃ (ls : List Bool) (e : Env), ls.length = s.switches.length ∧
    (
      let step := fun (j : Nat) (x : Switch) =>
        if x.valid then
          let a := switchSample s x (ls.getD j false)
          switchStep j a.2 a.1
        else (x, [])
      exec .swAdvance s = .next { s with
        switches := s.switches.mapIdx fun j x => (step j x).1
        out := s.out ++ (s.switches.mapIdx fun j x => (step j x).2).flatten
        env := e, res := .ok, active := none }) ∧
    ∀ (j : Nat) (x : Switch) (l : Bool), s.switches[j]? = some x → x.valid = true → x.mode = .digital →
      Table.lookup x.src.toNat s.env.pins = some [l] → ls[j]? = some l) ∧
  (∀ (s : State) (x : Switch) (c : Channel), s.channels[x.src.toNat]? = some c →
    (c.en = false ∨ c.primed = false → sampleAnalog x s = (false, x)) ∧
    (c.en = true → c.primed = true → (sampleAnalog x s).2 = { x with data := c.raw } ∧
      ((sampleAnalog x s).1 = true ↔
        c.raw.toNat ≤ x.onValue.toNat + x.tol.toNat ∧ x.onValue.toNat ≤ c.raw.toNat + x.tol.toNat))) ∧
  ∀ (i : Nat) (x : Switch), x.cnt.toNat < 65535 → x.rcnt.toNat < 65535 →
    let ev := fun (st : SwitchState) =>
      if x.cb.getLsbD 15 then [Record.swEvent (BitVec.ofNat 8 i) (x.cb.extractLsb' 0 15) st] else []
    let cnt := x.cnt.toNat + 1
    let rcnt := x.rcnt.toNat + 1
    let counts := fun (y : Switch) => { y with cnt := x.cnt + 1 }
    let enters := fun (y : Switch) (st : SwitchState) => ({ y with state := st, cnt := 0 }, ev st)
    let held := { x with rcnt := 0 }
    (x.state = .off → switchStep i x false = ({ x with cnt := 0 }, []) ∧
      switchStep i x true = if x.debounce.toNat ≤ cnt then enters held .on else (counts x, [])) ∧
    (x.state ≠ .off → switchStep i x false =
      if x.debounce.toNat ≤ rcnt then enters held .off else ({ x with rcnt := x.rcnt + 1 }, [])) ∧
    (x.state = .on → switchStep i x true =
      if x.hold = 0 then (held, []) else if x.hold.toNat ≤ cnt then enters held .hold else (counts held, [])) ∧
    (x.state = .hold → switchStep i x true =
      if x.rep = 0 then (held, []) else if x.rep.toNat ≤ cnt then enters held .repeating else (counts held, [])) ∧
    (x.state = .repeating → switchStep i x true =
      if x.rep.toNat ≤ cnt then enters held .repeating else (counts held, []))

/-- The switch laws (R381), for one switch over its samples: fewer than D active samples from off emit nothing, and an
inactive one then starts over; the D-th emits ON; held on, HOLD follows after H, the first REPEAT after R more and one
every R after that; and D inactive samples in a row emit OFF, not one fewer. -/
def Obligations.SwitchLaws : Prop :=
  ∀ (i : Nat) (x : Switch), x.debounce ≠ 0 →
    (x.state = .off → x.cnt = 0 →
      (∀ k, k < x.debounce.toNat →
        switchRun i x (List.replicate k true) = ({ x with cnt := BitVec.ofNat 16 k }, []) ∧
        switchRun i x (List.replicate k true ++ [false]) = (x, [])) ∧
      switchRun i x (List.replicate x.debounce.toNat true) =
        ({ x with state := .on, rcnt := 0 }, switchEvent i x .on)) ∧
    (x.state = .on → x.cnt = 0 → x.rcnt = 0 → x.hold ≠ 0 → x.rep ≠ 0 → ∀ n k, k < x.rep.toNat →
      switchRun i x (List.replicate (x.hold.toNat + x.rep.toNat * n + k) true) =
        ({ x with state := if n = 0 then .hold else .repeating, cnt := BitVec.ofNat 16 k },
          switchEvent i x .hold ++ (List.replicate n (switchEvent i x .repeating)).flatten)) ∧
    (x.state ≠ .off → x.rcnt = 0 →
      (∀ k, k < x.debounce.toNat →
        switchRun i x (List.replicate k false) = ({ x with rcnt := BitVec.ofNat 16 k }, [])) ∧
      switchRun i x (List.replicate x.debounce.toNat false) =
        ({ x with state := .off, cnt := 0, rcnt := 0 }, switchEvent i x .off))

/-! ### Analog channels -/

/-- ADC_CREATE (R402), ADC_DELETE (R403) and ADC_SET_CALLBACKS (R404), with the checks of R400. -/
def Obligations.AnalogCommands : Prop :=
  ∀ (s : State) (i : Byte),
    let sh := s.arg0.extractLsb' 8 4
    (s.channels.length ≤ i.toNat ∨ 9 < sh.toNat →
      exec (.adcCreate i) s = .next { s with res := .invalidArgument, active := none }) ∧
    (i.toNat < s.channels.length → sh.toNat ≤ 9 → exec (.adcCreate i) s = .next { s with
      channels := s.channels.set i.toNat
        { en := true, primed := false, ch := s.arg0.extractLsb' 0 8, shift := sh, raw := 0, min := 0, max := 0,
          prev := 0, delta := 0, thr := s.arg1.extractLsb' 0 16, evi := s.arg1.extractLsb' 16 16, evc := 65535,
          si := s.arg2.extractLsb' 0 16, scnt := 0, ccb := s.arg3.extractLsb' 0 16, scb := s.arg3.extractLsb' 16 16 }
      res := .ok, active := none }) ∧
    (s.channels.length ≤ i.toNat → exec (.adcDelete i) s = .next { s with res := .invalidArgument, active := none }) ∧
    (s.channels.length ≤ i.toNat ∨ (∃ x, s.channels[i.toNat]? = some x ∧ x.en = false) →
      exec (.adcSetCallbacks i) s = .next { s with res := .invalidArgument, active := none }) ∧
    ∀ x, s.channels[i.toNat]? = some x →
      exec (.adcDelete i) s = .next { s with
        channels := s.channels.set i.toNat { x with en := false }, res := .ok, active := none } ∧
      (x.en = true → exec (.adcSetCallbacks i) s = .next { s with
        channels := s.channels.set i.toNat { x with
          ccb := s.arg3.extractLsb' 0 16, scb := s.arg3.extractLsb' 16 16 }
        res := .ok, active := none })

/-- ADC_ADVANCE and the analog pass (R406, R430): every enabled channel takes one reading and its step, the records stand
in index order, and nothing else changes but the draws. Here `vs[j]` is the reading the environment answers for channel
j; an announced one (log 3) is the answer. The second clause is the step of one channel, on the output value `raw >>
shift` (R401): the priming reading, the change detection with its saturating suppression counter, then the sampling
cadence. -/
def Obligations.AnalogPass : Prop :=
  (∀ s : State, ∃ (vs : List Sample) (e : Env), vs.length = s.channels.length ∧
    (
      let step := fun (j : Nat) (x : Channel) => if x.en then channelStep j x (vs.getD j 0) else (x, [])
      exec .adcAdvance s = .next { s with
        channels := s.channels.mapIdx fun j x => (step j x).1
        out := s.out ++ (s.channels.mapIdx fun j x => (step j x).2).flatten
        env := e, res := .ok, active := none }) ∧
    ∀ (j : Nat) (x : Channel) (v : Sample), s.channels[j]? = some x → x.en = true → Table.lookup x.ch.toNat s.env.adcs = some [v] →
      vs[j]? = some v) ∧
  ∀ (i : Nat) (x : Channel) (r : Sample), x.scnt.toNat < 65535 →
    let v := BitVec.ofNat 10 (r.toNat / 2 ^ x.shift.toNat)
    let d : Int := (v.toNat : Int) - x.prev.toNat
    let evc := BitVec.ofNat 16 (Nat.min (x.evc.toNat + 1) 65535)
    let changed := (x.primed = true ∧ x.thr.toNat < d.natAbs) ∧ x.evi.toNat ≤ evc.toNat
    let y : Channel :=
      if x.primed = false then { x with raw := r, prev := v, min := v, max := v, delta := 0, primed := true }
      else { x with
        raw := r, min := if v < x.min then v else x.min, max := if x.max < v then v else x.max
        delta := BitVec.ofInt 11 d, prev := if changed then v else x.prev, evc := if changed then 0 else evc }
    let change :=
      if changed ∧ x.ccb.getLsbD 15 = true then
        [Record.adcChange (BitVec.ofNat 8 i) (x.ccb.extractLsb' 0 15) v (BitVec.ofInt 11 d)]
      else []
    let sample :=
      if x.scb.getLsbD 15 then [Record.adcSample (BitVec.ofNat 8 i) (x.scb.extractLsb' 0 15) v] else []
    channelStep i x r =
      if x.si = 0 then (y, change)
      else if x.si.toNat ≤ x.scnt.toNat + 1 then ({ y with scnt := 0 }, change ++ sample)
      else ({ y with scnt := x.scnt + 1 }, change)

/-- The analog laws (R431), for one channel over its readings. (a) The first reading after create emits no change.
(b) Without suppression, a reading emits a change exactly when it differs from the last reported value by more than the
threshold. (c) After a change, the next evi − 1 passes emit none. (d) With a sampling interval n the samples come on the
n-th, 2n-th, … pass whatever the input does. (e) min ≤ prev ≤ max and min ≤ v ≤ max after every pass once primed. -/
def Obligations.AnalogLaws : Prop :=
  ∀ (i : Nat) (x : Channel), ChannelInv x → x.en = true →
    (∀ v, x.primed = false → (channelStep i x v).2.filter isChange = []) ∧
    (∀ v, x.primed = true → x.evi = 0 → x.ccb.getLsbD 15 = true →
      let out := v.toNat / 2 ^ x.shift.toNat
      ((channelStep i x v).2.filter isChange ≠ [] ↔
        x.prev.toNat + x.thr.toNat < out ∨ out + x.thr.toNat < x.prev.toNat)) ∧
    (∀ v vs, (channelStep i x v).2.filter isChange ≠ [] → vs.length < x.evi.toNat →
      (channelRun i (channelStep i x v).1 vs).2.filter isChange = []) ∧
    (∀ vs, x.si ≠ 0 → x.scnt = 0 → x.scb.getLsbD 15 = true →
      (channelRun i x vs).1.scnt = BitVec.ofNat 16 (vs.length % x.si.toNat) ∧
      ((channelRun i x vs).2.filter isSample).length = vs.length / x.si.toNat) ∧
    ∀ v, let y := (channelStep i x v).1
      let out := v.toNat / 2 ^ x.shift.toNat
      y.primed = true ∧ y.raw = v ∧ y.min ≤ y.prev ∧ y.prev ≤ y.max ∧ y.min.toNat ≤ out ∧ out ≤ y.max.toNat

/-! ### Pulse generators -/

/-- The create commands of the pulse generators (R454..R460 with R450, R451, R452): the whole slot, the one PIN_SET with
the programmed level XORed with the invert flag, and the operands refused. -/
def Obligations.PulseCreate : Prop :=
  ∀ (s : State) (g : Byte),
    let pin := s.arg0.extractLsb' 0 8
    let inv := s.arg0.getLsbD 8
    let h := s.arg1.extractLsb' 0 16
    let a := s.arg1.extractLsb' 16 16
    let t := s.arg2.extractLsb' 0 16
    let c := s.arg2.extractLsb' 16 16
    let still := fun (mode : PulseMode) (out : Bool) =>
      ({ mode := mode, state := .running, pin := pin, inv := inv, out := out, head := 0, act := 0, total := 0
         cycles := 0, rem := 0, phase := 0, stage := .noStage } : Pulse)
    let pattern := fun (mode : PulseMode) (h t c p : Half) (st : Stage) =>
      ({ mode := mode, state := .running, pin := pin, inv := inv, out := xor (st == .active) inv, head := h, act := a
         total := t, cycles := c, rem := c, phase := p, stage := st } : Pulse)
    let first := if h ≠ 0 then Stage.head else if a ≠ 0 then .active else .tail
    let p0 := BitVec.ofNat 16 (c.toNat * t.toNat / 65536)
    (s.pulses.length ≤ g.toNat → ∀ i, i ∈ [Instr.pdsCreateLow g, .pdsCreateHigh g, .pdsCreateIdle g, .pdsCreateOneshot g,
        .pdsCreateRepeat g, .pdsCreateContinuous g, .pdsCreatePwm g] →
      exec i s = .next { s with res := .invalidArgument, active := none }) ∧
    (h.toNat + a.toNat = 0 ∨ 65535 < h.toNat + a.toNat →
      exec (.pdsCreateOneshot g) s = .next { s with res := .invalidArgument, active := none }) ∧
    (t = 0 ∨ t.toNat < h.toNat + a.toNat ∨ c = 0 →
      exec (.pdsCreateRepeat g) s = .next { s with res := .invalidArgument, active := none }) ∧
    (t = 0 ∨ t.toNat < h.toNat + a.toNat →
      exec (.pdsCreateContinuous g) s = .next { s with res := .invalidArgument, active := none }) ∧
    (t = 0 ∨ t.toNat < a.toNat →
      exec (.pdsCreatePwm g) s = .next { s with res := .invalidArgument, active := none }) ∧
    (g.toNat < s.pulses.length →
      exec (.pdsCreateLow g) s = .next { s with
        pulses := s.pulses.set g.toNat (still .low inv), out := s.out ++ [.pinSet pin inv], res := .ok
        active := none } ∧
      exec (.pdsCreateHigh g) s = .next { s with
        pulses := s.pulses.set g.toNat (still .high (!inv)), out := s.out ++ [.pinSet pin (!inv)], res := .ok
        active := none } ∧
      exec (.pdsCreateIdle g) s = .next { s with
        pulses := s.pulses.set g.toNat (still .idle false), res := .ok, active := none } ∧
      (0 < h.toNat + a.toNat → h.toNat + a.toNat ≤ 65535 → exec (.pdsCreateOneshot g) s = .next { s with
        pulses := s.pulses.set g.toNat (pattern .oneshot h (h + a) 0 0 first)
        out := s.out ++ [.pinSet pin (xor (first == .active) inv)], res := .ok, active := none }) ∧
      (t ≠ 0 → h.toNat + a.toNat ≤ t.toNat → c ≠ 0 → exec (.pdsCreateRepeat g) s = .next { s with
        pulses := s.pulses.set g.toNat (pattern .repeating h t c 0 first)
        out := s.out ++ [.pinSet pin (xor (first == .active) inv)], res := .ok, active := none }) ∧
      (t ≠ 0 → h.toNat + a.toNat ≤ t.toNat → exec (.pdsCreateContinuous g) s = .next { s with
        pulses := s.pulses.set g.toNat (pattern .continuous h t 0 0 first)
        out := s.out ++ [.pinSet pin (xor (first == .active) inv)], res := .ok, active := none }) ∧
      (t ≠ 0 → a.toNat ≤ t.toNat →
        let st := if p0.toNat < a.toNat then Stage.active else .tail
        exec (.pdsCreatePwm g) s = .next { s with
          pulses := s.pulses.set g.toNat (pattern .continuous 0 t 0 p0 st)
          out := s.out ++ [.pinSet pin (xor (st == .active) inv)], res := .ok, active := none }))

/-- PDS_RESTART (R463), PDS_STOP (R464), PDS_DELETE (R465), PDS_SET_INVERT (R466) and PDS_SYNC (R461), with the checks of
R450: which of them drive the pin, and to which level. -/
def Obligations.PulseControl : Prop :=
  ∀ (s : State) (g src : Byte) (inv : Bool),
    let dead := fun (g : Byte) => s.pulses.length ≤ g.toNat ∨ ∃ x, s.pulses[g.toNat]? = some x ∧ x.state = .deleted
    (dead g → ∀ i, i ∈ [Instr.pdsRestart g, .pdsStop g, .pdsSetInvert g inv, .pdsSync g src, .pdsSync src g,
        .pdsSyncAll g] → exec i s = .next { s with res := .invalidArgument, active := none }) ∧
    (s.pulses.length ≤ g.toNat → exec (.pdsDelete g) s = .next { s with res := .invalidArgument, active := none }) ∧
    ∀ x, s.pulses[g.toNat]? = some x →
      exec (.pdsDelete g) s = .next { s with
        pulses := s.pulses.set g.toNat { x with state := .deleted, stage := .noStage }, res := .ok, active := none } ∧
      (x.state ≠ .deleted →
        exec (.pdsStop g) s = .next { s with
          pulses := s.pulses.set g.toNat { x with state := .completed, stage := .noStage }, res := .ok
          active := none } ∧
        (isPattern x = true →
          let st := if x.head ≠ 0 then Stage.head else if x.act ≠ 0 then .active else .tail
          let lvl := xor (st == .active) x.inv
          exec (.pdsRestart g) s = .next { s with
            pulses := s.pulses.set g.toNat { x with
              state := .running, phase := 0, rem := x.cycles, stage := st, out := lvl }
            out := s.out ++ [.pinSet x.pin lvl], res := .ok, active := none }) ∧
        (isPattern x = false → x.mode ≠ .idle →
          let lvl := xor (x.mode == .high) x.inv
          exec (.pdsRestart g) s = .next { s with
            pulses := s.pulses.set g.toNat { x with state := .running, out := lvl }
            out := s.out ++ [.pinSet x.pin lvl], res := .ok, active := none }) ∧
        (x.mode = .idle → exec (.pdsRestart g) s = .next { s with
          pulses := s.pulses.set g.toNat { x with state := .running }, res := .ok, active := none }) ∧
        (x.state = .running → isPattern x = true →
          let lvl := xor (x.stage == .active) inv
          exec (.pdsSetInvert g inv) s = .next { s with
            pulses := s.pulses.set g.toNat { x with inv := inv, out := lvl }
            out := s.out ++ [.pinSet x.pin lvl], res := .ok, active := none }) ∧
        (x.state = .running → isPattern x = false → x.mode ≠ .idle →
          let lvl := xor (x.mode == .high) inv
          exec (.pdsSetInvert g inv) s = .next { s with
            pulses := s.pulses.set g.toNat { x with inv := inv, out := lvl }
            out := s.out ++ [.pinSet x.pin lvl], res := .ok, active := none }) ∧
        (x.state = .completed ∨ x.mode = .idle → exec (.pdsSetInvert g inv) s = .next { s with
          pulses := s.pulses.set g.toNat { x with inv := inv }, res := .ok, active := none }) ∧
        ∀ y, s.pulses[src.toNat]? = some y → y.state ≠ .deleted →
          (isPattern x = false ∨ isPattern y = false ∨ x.state ≠ .running ∨ y.state ≠ .running →
            exec (.pdsSync g src) s = .next { s with res := .genericError, active := none }) ∧
          (isPattern x = true → isPattern y = true → x.state = .running → y.state = .running →
            let lvl := xor (y.stage == .active) x.inv
            exec (.pdsSync g src) s = .next { s with
              pulses := s.pulses.set g.toNat { x with phase := y.phase, stage := y.stage, out := lvl }
              out := s.out ++ [.pinSet x.pin lvl], res := .ok, active := none }))

/-- PDS_SYNC_ALL (R462): a reference that is static, idle or completed is refused; otherwise every other running pattern
generator takes its phase counter and stage and drives its pin, the records stand in index order, and nothing else
changes. -/
def Obligations.SyncAllGenerators : Prop :=
  ∀ (s : State) (g : Byte) (r : Pulse), s.pulses[g.toNat]? = some r → r.state ≠ .deleted →
    (isPattern r = false ∨ r.state ≠ .running →
      exec (.pdsSyncAll g) s = .next { s with res := .genericError, active := none }) ∧
    (isPattern r = true → r.state = .running →
      let takes := fun (j : Nat) (x : Pulse) => decide (j ≠ g.toNat) && isPattern x && decide (x.state = .running)
      let lvl := fun (x : Pulse) => xor (r.stage == .active) x.inv
      exec (.pdsSyncAll g) s = .next { s with
        pulses := s.pulses.mapIdx fun j x =>
          if takes j x then { x with phase := r.phase, stage := r.stage, out := lvl x } else x
        out := s.out ++ (s.pulses.mapIdx fun j x => if takes j x then [Record.pinSet x.pin (lvl x)] else []).flatten
        res := .ok, active := none })

/-- PDS_ADVANCE and the PDS pass (R468, R500): every running pattern generator takes its step, the records stand in index
order, and nothing else changes. The step, for a generator whose phase counter can count up: the next phase, the cycle's
end, completion with the one drive to rest level (R453), and a drive on each change of stage and on nothing else. -/
def Obligations.PulsePass : Prop :=
  (∀ s : State, exec .pdsAdvance s = .next { s with
    pulses := s.pulses.map fun x => (pulseStep x).1
    out := s.out ++ (s.pulses.map fun x => (pulseStep x).2).flatten
    res := .ok, active := none }) ∧
  ∀ x : Pulse,
    let completed := fun (p : Half) (rem : Half) =>
      (({ x with phase := p, rem := rem, state := .completed, stage := .noStage, out := x.inv } : Pulse),
        [Record.pinSet x.pin x.inv])
    let goesOn := fun (p : Half) (rem : Half) =>
      let st := if p.toNat < x.head.toNat then Stage.head
        else if p.toNat < x.head.toNat + x.act.toNat then .active else .tail
      let lvl := xor (st == .active) x.inv
      if st = x.stage then (({ x with phase := p, rem := rem } : Pulse), [])
      else ({ x with phase := p, rem := rem, stage := st, out := lvl }, [Record.pinSet x.pin lvl])
    (x.state ≠ .running ∨ isPattern x = false → pulseStep x = (x, [])) ∧
    (x.state = .running → x.phase.toNat < 65535 →
      (x.mode = .oneshot →
        pulseStep x = if x.head.toNat + x.act.toNat ≤ x.phase.toNat + 1 then completed (x.phase + 1) x.rem
          else goesOn (x.phase + 1) x.rem) ∧
      (x.mode = .repeating →
        pulseStep x = if x.phase.toNat + 1 < x.total.toNat then goesOn (x.phase + 1) x.rem
          else if x.rem = 1 then completed 0 0 else goesOn 0 (x.rem - 1)) ∧
      (x.mode = .continuous →
        pulseStep x = if x.phase.toNat + 1 < x.total.toNat then goesOn (x.phase + 1) x.rem else goesOn 0 x.rem))

/-- The pattern laws (R501), for a generator fresh from its create command and not commanded afterwards. A oneshot is in
the stage of pass m until pass H + A, where it completes at rest level, with a drive to pulse level at pass H (when H and
A are at least 1) and nothing after; a repeat is in cycle m / T at phase m % T until pass C·T, where it completes; a
continuous generator runs for ever. -/
def Obligations.PatternLaws : Prop :=
  ∀ (x : Pulse) (m : Nat), x.state = .running → isPattern x = true → PulseShape x → x.phase = 0 → x.rem = x.cycles →
    let at_ := fun (k : Nat) =>
      if k < x.head.toNat then Stage.head else if k < x.head.toNat + x.act.toNat then .active else .tail
    x.stage = at_ 0 →
    let total := x.total.toNat
    let r := pulseRun m x
    (x.mode = .oneshot → m < total →
      r.1.state = .running ∧ r.1.phase = BitVec.ofNat 16 m ∧ r.1.stage = at_ m ∧
      r.2 = if x.stage = .head ∧ at_ m = .active then [.pinSet x.pin (!x.inv)] else []) ∧
    (x.mode = .oneshot → total ≤ m →
      r.1.state = .completed ∧ r.1.stage = .noStage ∧ r.1.out = x.inv ∧
      r.2 = (if x.stage = .head ∧ x.act ≠ 0 then [.pinSet x.pin (!x.inv)] else []) ++ [.pinSet x.pin x.inv]) ∧
    (x.mode = .repeating → m < x.cycles.toNat * total →
      r.1.state = .running ∧ r.1.phase = BitVec.ofNat 16 (m % total) ∧
      r.1.rem = x.cycles - BitVec.ofNat 16 (m / total) ∧ r.1.stage = at_ (m % total)) ∧
    (x.mode = .repeating → x.cycles.toNat * total ≤ m →
      r.1.state = .completed ∧ r.1.rem = 0 ∧ r.1.stage = .noStage ∧ r.1.out = x.inv) ∧
    (x.mode = .continuous →
      r.1.state = .running ∧ r.1.phase = BitVec.ofNat 16 (m % total) ∧ r.1.stage = at_ (m % total)) ∧
    (r.1.state = .running → (pulseRun (m + 1) x).1.state = .running →
      (pulseStep r.1).2 =
        if at_ ((m + 1) % total) = at_ (m % total) then []
        else [.pinSet x.pin (xor (at_ ((m + 1) % total) == .active) x.inv)])

/-- The phase lock (R462, R503): a generator that has taken the phase of another of equal period keeps an equal phase
counter in every later pass, as long as both run. -/
def Obligations.PhaseLockHolds : Prop :=
  ∀ (x y : Pulse) (m : Nat), PulseInv x → PulseInv y → x.total = y.total → x.phase = y.phase →
    isPattern x = true → isPattern y = true →
    (pulseRun m x).1.state = .running → (pulseRun m y).1.state = .running →
    (pulseRun m x).1.phase = (pulseRun m y).1.phase

/-- Inverting a generator swaps every level it drives (R502, R452) and changes nothing else: over any number of passes,
and at a restart. -/
def Obligations.InvertSwapsLevels : Prop :=
  ∀ (x : Pulse) (m : Nat),
    pulseRun m x.inverted = ((pulseRun m x).1.inverted, (pulseRun m x).2.map Record.inverted) ∧
    restart x.inverted = ((restart x).1.inverted, (restart x).2.map Record.inverted)
end

