-- ==== Sys2Proof/Laws/Encoding.lean ====
section
/-! SUPPORT. The fields of an encoded command word (R141): what the decoder reads back of each. -/

namespace Sys2Proof

@[simp] theorem opcOf_cmdWord (opc id : Byte) (imm : Half) : opcOf (cmdWord opc id imm) = opc := by
  ext k hk
  simp only [opcOf, cmdWord, BitVec.getElem_extractLsb', BitVec.getLsbD_append]
  rw [if_neg (by omega), if_neg (by omega)]
  rw [BitVec.getLsbD_eq_getElem (by omega)]
  congr 1
  omega

@[simp] theorem idOf_cmdWord (opc id : Byte) (imm : Half) : idOf (cmdWord opc id imm) = id := by
  ext k hk
  simp only [idOf, cmdWord, BitVec.getElem_extractLsb', BitVec.getLsbD_append]
  rw [if_neg (by omega), if_pos (by omega), BitVec.getLsbD_eq_getElem (by omega)]
  congr 1
  omega

@[simp] theorem immOf_cmdWord (opc id : Byte) (imm : Half) : immOf (cmdWord opc id imm) = imm := by
  ext k hk
  simp only [immOf, cmdWord, BitVec.getElem_extractLsb', BitVec.getLsbD_append]
  rw [if_pos (by omega), BitVec.getLsbD_eq_getElem (by omega)]
  congr 1
  omega

@[simp] theorem immByte_cmdWord (opc id b : Byte) : immByte (cmdWord opc id (byteImm b)) = b := by
  ext k hk
  simp only [immByte, cmdWord, byteImm, BitVec.getElem_extractLsb', BitVec.getLsbD_append]
  rw [if_pos (by omega), if_pos (by omega), BitVec.getLsbD_eq_getElem (by omega)]
  congr 1
  omega

@[simp] theorem immFlag_cmdWord (opc id : Byte) (f : Bool) : immFlag (cmdWord opc id (flagImm f)) = f := by
  simp only [immFlag, cmdWord, flagImm, BitVec.getLsbD_append]
  cases f <;> rfl

@[simp] theorem modeOf_cmdWord (opc id : Byte) (m : TimerMode) : modeOf (cmdWord opc id (modeImm m)) = m := by
  cases m <;> simp [modeOf, modeImm]

end Sys2Proof
end

