-- ==== Sys2Proof/Laws/State.lean ====
section
/-! SUPPORT. What each update of the state does to each field: one lemma per field per update, true by `rfl`, so that no
later proof unfolds a record update. -/

namespace Sys2Proof.Machine

/-! ### finish -/

@[simp] theorem finish_cmd (c : ResultCode) (s : State) : (finish c s).cmd = s.cmd := rfl
@[simp] theorem finish_arg0 (c : ResultCode) (s : State) : (finish c s).arg0 = s.arg0 := rfl
@[simp] theorem finish_arg1 (c : ResultCode) (s : State) : (finish c s).arg1 = s.arg1 := rfl
@[simp] theorem finish_arg2 (c : ResultCode) (s : State) : (finish c s).arg2 = s.arg2 := rfl
@[simp] theorem finish_arg3 (c : ResultCode) (s : State) : (finish c s).arg3 = s.arg3 := rfl
@[simp] theorem finish_res (c : ResultCode) (s : State) : (finish c s).res = c := rfl
@[simp] theorem finish_rdata (c : ResultCode) (s : State) : (finish c s).rdata = s.rdata := rfl
@[simp] theorem finish_active (c : ResultCode) (s : State) : (finish c s).active = none := rfl
@[simp] theorem finish_tick (c : ResultCode) (s : State) : (finish c s).tick = s.tick := rfl
@[simp] theorem finish_consumed (c : ResultCode) (s : State) : (finish c s).consumed = s.consumed := rfl
@[simp] theorem finish_clkBase (c : ResultCode) (s : State) : (finish c s).clkBase = s.clkBase := rfl
@[simp] theorem finish_clkRef (c : ResultCode) (s : State) : (finish c s).clkRef = s.clkRef := rfl
@[simp] theorem finish_queues (c : ResultCode) (s : State) : (finish c s).queues = s.queues := rfl
@[simp] theorem finish_ports (c : ResultCode) (s : State) : (finish c s).ports = s.ports := rfl
@[simp] theorem finish_timers (c : ResultCode) (s : State) : (finish c s).timers = s.timers := rfl
@[simp] theorem finish_switches (c : ResultCode) (s : State) : (finish c s).switches = s.switches := rfl
@[simp] theorem finish_channels (c : ResultCode) (s : State) : (finish c s).channels = s.channels := rfl
@[simp] theorem finish_pulses (c : ResultCode) (s : State) : (finish c s).pulses = s.pulses := rfl
@[simp] theorem finish_qmem (c : ResultCode) (s : State) : (finish c s).qmem = s.qmem := rfl
@[simp] theorem finish_out (c : ResultCode) (s : State) : (finish c s).out = s.out := rfl
@[simp] theorem finish_qmemSize (c : ResultCode) (s : State) : (finish c s).qmemSize = s.qmemSize := rfl
@[simp] theorem finish_lineMax (c : ResultCode) (s : State) : (finish c s).lineMax = s.lineMax := rfl
@[simp] theorem finish_inputs (c : ResultCode) (s : State) : (finish c s).inputs = s.inputs := rfl
@[simp] theorem finish_env (c : ResultCode) (s : State) : (finish c s).env = s.env := rfl
@[simp] theorem finish_hostData (c : ResultCode) (s : State) : (finish c s).hostData = s.hostData := rfl

/-! ### raise -/

@[simp] theorem raise_cmd (c : ResultCode) (s : State) : (raise c s).cmd = s.cmd := rfl
@[simp] theorem raise_arg0 (c : ResultCode) (s : State) : (raise c s).arg0 = s.arg0 := rfl
@[simp] theorem raise_arg1 (c : ResultCode) (s : State) : (raise c s).arg1 = s.arg1 := rfl
@[simp] theorem raise_arg2 (c : ResultCode) (s : State) : (raise c s).arg2 = s.arg2 := rfl
@[simp] theorem raise_arg3 (c : ResultCode) (s : State) : (raise c s).arg3 = s.arg3 := rfl
@[simp] theorem raise_res (c : ResultCode) (s : State) : (raise c s).res = c := rfl
@[simp] theorem raise_rdata (c : ResultCode) (s : State) : (raise c s).rdata = s.rdata := rfl
@[simp] theorem raise_active (c : ResultCode) (s : State) : (raise c s).active = none := rfl
@[simp] theorem raise_tick (c : ResultCode) (s : State) : (raise c s).tick = s.tick := rfl
@[simp] theorem raise_consumed (c : ResultCode) (s : State) : (raise c s).consumed = s.consumed := rfl
@[simp] theorem raise_clkBase (c : ResultCode) (s : State) : (raise c s).clkBase = s.clkBase := rfl
@[simp] theorem raise_clkRef (c : ResultCode) (s : State) : (raise c s).clkRef = s.clkRef := rfl
@[simp] theorem raise_queues (c : ResultCode) (s : State) : (raise c s).queues = s.queues := rfl
@[simp] theorem raise_ports (c : ResultCode) (s : State) : (raise c s).ports = s.ports := rfl
@[simp] theorem raise_timers (c : ResultCode) (s : State) : (raise c s).timers = s.timers := rfl
@[simp] theorem raise_switches (c : ResultCode) (s : State) : (raise c s).switches = s.switches := rfl
@[simp] theorem raise_channels (c : ResultCode) (s : State) : (raise c s).channels = s.channels := rfl
@[simp] theorem raise_pulses (c : ResultCode) (s : State) : (raise c s).pulses = s.pulses := rfl
@[simp] theorem raise_qmem (c : ResultCode) (s : State) : (raise c s).qmem = s.qmem := rfl
@[simp] theorem raise_out (c : ResultCode) (s : State) : (raise c s).out = s.out := rfl
@[simp] theorem raise_qmemSize (c : ResultCode) (s : State) : (raise c s).qmemSize = s.qmemSize := rfl
@[simp] theorem raise_lineMax (c : ResultCode) (s : State) : (raise c s).lineMax = s.lineMax := rfl
@[simp] theorem raise_inputs (c : ResultCode) (s : State) : (raise c s).inputs = s.inputs := rfl
@[simp] theorem raise_env (c : ResultCode) (s : State) : (raise c s).env = s.env := rfl
@[simp] theorem raise_hostData (c : ResultCode) (s : State) : (raise c s).hostData = s.hostData := rfl

/-! ### finishData -/

@[simp] theorem finishData_cmd (v : Word) (s : State) : (finishData v s).cmd = s.cmd := rfl
@[simp] theorem finishData_arg0 (v : Word) (s : State) : (finishData v s).arg0 = s.arg0 := rfl
@[simp] theorem finishData_arg1 (v : Word) (s : State) : (finishData v s).arg1 = s.arg1 := rfl
@[simp] theorem finishData_arg2 (v : Word) (s : State) : (finishData v s).arg2 = s.arg2 := rfl
@[simp] theorem finishData_arg3 (v : Word) (s : State) : (finishData v s).arg3 = s.arg3 := rfl
@[simp] theorem finishData_res (v : Word) (s : State) : (finishData v s).res = .ok := rfl
@[simp] theorem finishData_rdata (v : Word) (s : State) : (finishData v s).rdata = v := rfl
@[simp] theorem finishData_active (v : Word) (s : State) : (finishData v s).active = none := rfl
@[simp] theorem finishData_tick (v : Word) (s : State) : (finishData v s).tick = s.tick := rfl
@[simp] theorem finishData_consumed (v : Word) (s : State) : (finishData v s).consumed = s.consumed := rfl
@[simp] theorem finishData_clkBase (v : Word) (s : State) : (finishData v s).clkBase = s.clkBase := rfl
@[simp] theorem finishData_clkRef (v : Word) (s : State) : (finishData v s).clkRef = s.clkRef := rfl
@[simp] theorem finishData_queues (v : Word) (s : State) : (finishData v s).queues = s.queues := rfl
@[simp] theorem finishData_ports (v : Word) (s : State) : (finishData v s).ports = s.ports := rfl
@[simp] theorem finishData_timers (v : Word) (s : State) : (finishData v s).timers = s.timers := rfl
@[simp] theorem finishData_switches (v : Word) (s : State) : (finishData v s).switches = s.switches := rfl
@[simp] theorem finishData_channels (v : Word) (s : State) : (finishData v s).channels = s.channels := rfl
@[simp] theorem finishData_pulses (v : Word) (s : State) : (finishData v s).pulses = s.pulses := rfl
@[simp] theorem finishData_qmem (v : Word) (s : State) : (finishData v s).qmem = s.qmem := rfl
@[simp] theorem finishData_out (v : Word) (s : State) : (finishData v s).out = s.out := rfl
@[simp] theorem finishData_qmemSize (v : Word) (s : State) : (finishData v s).qmemSize = s.qmemSize := rfl
@[simp] theorem finishData_lineMax (v : Word) (s : State) : (finishData v s).lineMax = s.lineMax := rfl
@[simp] theorem finishData_inputs (v : Word) (s : State) : (finishData v s).inputs = s.inputs := rfl
@[simp] theorem finishData_env (v : Word) (s : State) : (finishData v s).env = s.env := rfl
@[simp] theorem finishData_hostData (v : Word) (s : State) : (finishData v s).hostData = s.hostData := rfl

/-! ### setQueue -/

@[simp] theorem setQueue_cmd (q : Nat) (x : Queue) (s : State) : (setQueue q x s).cmd = s.cmd := rfl
@[simp] theorem setQueue_arg0 (q : Nat) (x : Queue) (s : State) : (setQueue q x s).arg0 = s.arg0 := rfl
@[simp] theorem setQueue_arg1 (q : Nat) (x : Queue) (s : State) : (setQueue q x s).arg1 = s.arg1 := rfl
@[simp] theorem setQueue_arg2 (q : Nat) (x : Queue) (s : State) : (setQueue q x s).arg2 = s.arg2 := rfl
@[simp] theorem setQueue_arg3 (q : Nat) (x : Queue) (s : State) : (setQueue q x s).arg3 = s.arg3 := rfl
@[simp] theorem setQueue_res (q : Nat) (x : Queue) (s : State) : (setQueue q x s).res = s.res := rfl
@[simp] theorem setQueue_rdata (q : Nat) (x : Queue) (s : State) : (setQueue q x s).rdata = s.rdata := rfl
@[simp] theorem setQueue_active (q : Nat) (x : Queue) (s : State) : (setQueue q x s).active = s.active := rfl
@[simp] theorem setQueue_tick (q : Nat) (x : Queue) (s : State) : (setQueue q x s).tick = s.tick := rfl
@[simp] theorem setQueue_consumed (q : Nat) (x : Queue) (s : State) : (setQueue q x s).consumed = s.consumed := rfl
@[simp] theorem setQueue_clkBase (q : Nat) (x : Queue) (s : State) : (setQueue q x s).clkBase = s.clkBase := rfl
@[simp] theorem setQueue_clkRef (q : Nat) (x : Queue) (s : State) : (setQueue q x s).clkRef = s.clkRef := rfl
@[simp] theorem setQueue_queues (q : Nat) (x : Queue) (s : State) : (setQueue q x s).queues = s.queues.set q x := rfl
@[simp] theorem setQueue_ports (q : Nat) (x : Queue) (s : State) : (setQueue q x s).ports = s.ports := rfl
@[simp] theorem setQueue_timers (q : Nat) (x : Queue) (s : State) : (setQueue q x s).timers = s.timers := rfl
@[simp] theorem setQueue_switches (q : Nat) (x : Queue) (s : State) : (setQueue q x s).switches = s.switches := rfl
@[simp] theorem setQueue_channels (q : Nat) (x : Queue) (s : State) : (setQueue q x s).channels = s.channels := rfl
@[simp] theorem setQueue_pulses (q : Nat) (x : Queue) (s : State) : (setQueue q x s).pulses = s.pulses := rfl
@[simp] theorem setQueue_qmem (q : Nat) (x : Queue) (s : State) : (setQueue q x s).qmem = s.qmem := rfl
@[simp] theorem setQueue_out (q : Nat) (x : Queue) (s : State) : (setQueue q x s).out = s.out := rfl
@[simp] theorem setQueue_qmemSize (q : Nat) (x : Queue) (s : State) : (setQueue q x s).qmemSize = s.qmemSize := rfl
@[simp] theorem setQueue_lineMax (q : Nat) (x : Queue) (s : State) : (setQueue q x s).lineMax = s.lineMax := rfl
@[simp] theorem setQueue_inputs (q : Nat) (x : Queue) (s : State) : (setQueue q x s).inputs = s.inputs := rfl
@[simp] theorem setQueue_env (q : Nat) (x : Queue) (s : State) : (setQueue q x s).env = s.env := rfl
@[simp] theorem setQueue_hostData (q : Nat) (x : Queue) (s : State) : (setQueue q x s).hostData = s.hostData := rfl

/-! ### setPort -/

@[simp] theorem setPort_cmd (p : Nat) (x : Port) (s : State) : (setPort p x s).cmd = s.cmd := rfl
@[simp] theorem setPort_arg0 (p : Nat) (x : Port) (s : State) : (setPort p x s).arg0 = s.arg0 := rfl
@[simp] theorem setPort_arg1 (p : Nat) (x : Port) (s : State) : (setPort p x s).arg1 = s.arg1 := rfl
@[simp] theorem setPort_arg2 (p : Nat) (x : Port) (s : State) : (setPort p x s).arg2 = s.arg2 := rfl
@[simp] theorem setPort_arg3 (p : Nat) (x : Port) (s : State) : (setPort p x s).arg3 = s.arg3 := rfl
@[simp] theorem setPort_res (p : Nat) (x : Port) (s : State) : (setPort p x s).res = s.res := rfl
@[simp] theorem setPort_rdata (p : Nat) (x : Port) (s : State) : (setPort p x s).rdata = s.rdata := rfl
@[simp] theorem setPort_active (p : Nat) (x : Port) (s : State) : (setPort p x s).active = s.active := rfl
@[simp] theorem setPort_tick (p : Nat) (x : Port) (s : State) : (setPort p x s).tick = s.tick := rfl
@[simp] theorem setPort_consumed (p : Nat) (x : Port) (s : State) : (setPort p x s).consumed = s.consumed := rfl
@[simp] theorem setPort_clkBase (p : Nat) (x : Port) (s : State) : (setPort p x s).clkBase = s.clkBase := rfl
@[simp] theorem setPort_clkRef (p : Nat) (x : Port) (s : State) : (setPort p x s).clkRef = s.clkRef := rfl
@[simp] theorem setPort_queues (p : Nat) (x : Port) (s : State) : (setPort p x s).queues = s.queues := rfl
@[simp] theorem setPort_ports (p : Nat) (x : Port) (s : State) : (setPort p x s).ports = s.ports.set p x := rfl
@[simp] theorem setPort_timers (p : Nat) (x : Port) (s : State) : (setPort p x s).timers = s.timers := rfl
@[simp] theorem setPort_switches (p : Nat) (x : Port) (s : State) : (setPort p x s).switches = s.switches := rfl
@[simp] theorem setPort_channels (p : Nat) (x : Port) (s : State) : (setPort p x s).channels = s.channels := rfl
@[simp] theorem setPort_pulses (p : Nat) (x : Port) (s : State) : (setPort p x s).pulses = s.pulses := rfl
@[simp] theorem setPort_qmem (p : Nat) (x : Port) (s : State) : (setPort p x s).qmem = s.qmem := rfl
@[simp] theorem setPort_out (p : Nat) (x : Port) (s : State) : (setPort p x s).out = s.out := rfl
@[simp] theorem setPort_qmemSize (p : Nat) (x : Port) (s : State) : (setPort p x s).qmemSize = s.qmemSize := rfl
@[simp] theorem setPort_lineMax (p : Nat) (x : Port) (s : State) : (setPort p x s).lineMax = s.lineMax := rfl
@[simp] theorem setPort_inputs (p : Nat) (x : Port) (s : State) : (setPort p x s).inputs = s.inputs := rfl
@[simp] theorem setPort_env (p : Nat) (x : Port) (s : State) : (setPort p x s).env = s.env := rfl
@[simp] theorem setPort_hostData (p : Nat) (x : Port) (s : State) : (setPort p x s).hostData = s.hostData := rfl

/-! ### setTimer -/

@[simp] theorem setTimer_cmd (i : Nat) (x : Timer) (s : State) : (setTimer i x s).cmd = s.cmd := rfl
@[simp] theorem setTimer_arg0 (i : Nat) (x : Timer) (s : State) : (setTimer i x s).arg0 = s.arg0 := rfl
@[simp] theorem setTimer_arg1 (i : Nat) (x : Timer) (s : State) : (setTimer i x s).arg1 = s.arg1 := rfl
@[simp] theorem setTimer_arg2 (i : Nat) (x : Timer) (s : State) : (setTimer i x s).arg2 = s.arg2 := rfl
@[simp] theorem setTimer_arg3 (i : Nat) (x : Timer) (s : State) : (setTimer i x s).arg3 = s.arg3 := rfl
@[simp] theorem setTimer_res (i : Nat) (x : Timer) (s : State) : (setTimer i x s).res = s.res := rfl
@[simp] theorem setTimer_rdata (i : Nat) (x : Timer) (s : State) : (setTimer i x s).rdata = s.rdata := rfl
@[simp] theorem setTimer_active (i : Nat) (x : Timer) (s : State) : (setTimer i x s).active = s.active := rfl
@[simp] theorem setTimer_tick (i : Nat) (x : Timer) (s : State) : (setTimer i x s).tick = s.tick := rfl
@[simp] theorem setTimer_consumed (i : Nat) (x : Timer) (s : State) : (setTimer i x s).consumed = s.consumed := rfl
@[simp] theorem setTimer_clkBase (i : Nat) (x : Timer) (s : State) : (setTimer i x s).clkBase = s.clkBase := rfl
@[simp] theorem setTimer_clkRef (i : Nat) (x : Timer) (s : State) : (setTimer i x s).clkRef = s.clkRef := rfl
@[simp] theorem setTimer_queues (i : Nat) (x : Timer) (s : State) : (setTimer i x s).queues = s.queues := rfl
@[simp] theorem setTimer_ports (i : Nat) (x : Timer) (s : State) : (setTimer i x s).ports = s.ports := rfl
@[simp] theorem setTimer_timers (i : Nat) (x : Timer) (s : State) : (setTimer i x s).timers = s.timers.set i x := rfl
@[simp] theorem setTimer_switches (i : Nat) (x : Timer) (s : State) : (setTimer i x s).switches = s.switches := rfl
@[simp] theorem setTimer_channels (i : Nat) (x : Timer) (s : State) : (setTimer i x s).channels = s.channels := rfl
@[simp] theorem setTimer_pulses (i : Nat) (x : Timer) (s : State) : (setTimer i x s).pulses = s.pulses := rfl
@[simp] theorem setTimer_qmem (i : Nat) (x : Timer) (s : State) : (setTimer i x s).qmem = s.qmem := rfl
@[simp] theorem setTimer_out (i : Nat) (x : Timer) (s : State) : (setTimer i x s).out = s.out := rfl
@[simp] theorem setTimer_qmemSize (i : Nat) (x : Timer) (s : State) : (setTimer i x s).qmemSize = s.qmemSize := rfl
@[simp] theorem setTimer_lineMax (i : Nat) (x : Timer) (s : State) : (setTimer i x s).lineMax = s.lineMax := rfl
@[simp] theorem setTimer_inputs (i : Nat) (x : Timer) (s : State) : (setTimer i x s).inputs = s.inputs := rfl
@[simp] theorem setTimer_env (i : Nat) (x : Timer) (s : State) : (setTimer i x s).env = s.env := rfl
@[simp] theorem setTimer_hostData (i : Nat) (x : Timer) (s : State) : (setTimer i x s).hostData = s.hostData := rfl

/-! ### setSwitch -/

@[simp] theorem setSwitch_cmd (i : Nat) (x : Switch) (s : State) : (setSwitch i x s).cmd = s.cmd := rfl
@[simp] theorem setSwitch_arg0 (i : Nat) (x : Switch) (s : State) : (setSwitch i x s).arg0 = s.arg0 := rfl
@[simp] theorem setSwitch_arg1 (i : Nat) (x : Switch) (s : State) : (setSwitch i x s).arg1 = s.arg1 := rfl
@[simp] theorem setSwitch_arg2 (i : Nat) (x : Switch) (s : State) : (setSwitch i x s).arg2 = s.arg2 := rfl
@[simp] theorem setSwitch_arg3 (i : Nat) (x : Switch) (s : State) : (setSwitch i x s).arg3 = s.arg3 := rfl
@[simp] theorem setSwitch_res (i : Nat) (x : Switch) (s : State) : (setSwitch i x s).res = s.res := rfl
@[simp] theorem setSwitch_rdata (i : Nat) (x : Switch) (s : State) : (setSwitch i x s).rdata = s.rdata := rfl
@[simp] theorem setSwitch_active (i : Nat) (x : Switch) (s : State) : (setSwitch i x s).active = s.active := rfl
@[simp] theorem setSwitch_tick (i : Nat) (x : Switch) (s : State) : (setSwitch i x s).tick = s.tick := rfl
@[simp] theorem setSwitch_consumed (i : Nat) (x : Switch) (s : State) : (setSwitch i x s).consumed = s.consumed := rfl
@[simp] theorem setSwitch_clkBase (i : Nat) (x : Switch) (s : State) : (setSwitch i x s).clkBase = s.clkBase := rfl
@[simp] theorem setSwitch_clkRef (i : Nat) (x : Switch) (s : State) : (setSwitch i x s).clkRef = s.clkRef := rfl
@[simp] theorem setSwitch_queues (i : Nat) (x : Switch) (s : State) : (setSwitch i x s).queues = s.queues := rfl
@[simp] theorem setSwitch_ports (i : Nat) (x : Switch) (s : State) : (setSwitch i x s).ports = s.ports := rfl
@[simp] theorem setSwitch_timers (i : Nat) (x : Switch) (s : State) : (setSwitch i x s).timers = s.timers := rfl
@[simp] theorem setSwitch_switches (i : Nat) (x : Switch) (s : State) : (setSwitch i x s).switches = s.switches.set i x := rfl
@[simp] theorem setSwitch_channels (i : Nat) (x : Switch) (s : State) : (setSwitch i x s).channels = s.channels := rfl
@[simp] theorem setSwitch_pulses (i : Nat) (x : Switch) (s : State) : (setSwitch i x s).pulses = s.pulses := rfl
@[simp] theorem setSwitch_qmem (i : Nat) (x : Switch) (s : State) : (setSwitch i x s).qmem = s.qmem := rfl
@[simp] theorem setSwitch_out (i : Nat) (x : Switch) (s : State) : (setSwitch i x s).out = s.out := rfl
@[simp] theorem setSwitch_qmemSize (i : Nat) (x : Switch) (s : State) : (setSwitch i x s).qmemSize = s.qmemSize := rfl
@[simp] theorem setSwitch_lineMax (i : Nat) (x : Switch) (s : State) : (setSwitch i x s).lineMax = s.lineMax := rfl
@[simp] theorem setSwitch_inputs (i : Nat) (x : Switch) (s : State) : (setSwitch i x s).inputs = s.inputs := rfl
@[simp] theorem setSwitch_env (i : Nat) (x : Switch) (s : State) : (setSwitch i x s).env = s.env := rfl
@[simp] theorem setSwitch_hostData (i : Nat) (x : Switch) (s : State) : (setSwitch i x s).hostData = s.hostData := rfl

/-! ### setChannel -/

@[simp] theorem setChannel_cmd (i : Nat) (x : Channel) (s : State) : (setChannel i x s).cmd = s.cmd := rfl
@[simp] theorem setChannel_arg0 (i : Nat) (x : Channel) (s : State) : (setChannel i x s).arg0 = s.arg0 := rfl
@[simp] theorem setChannel_arg1 (i : Nat) (x : Channel) (s : State) : (setChannel i x s).arg1 = s.arg1 := rfl
@[simp] theorem setChannel_arg2 (i : Nat) (x : Channel) (s : State) : (setChannel i x s).arg2 = s.arg2 := rfl
@[simp] theorem setChannel_arg3 (i : Nat) (x : Channel) (s : State) : (setChannel i x s).arg3 = s.arg3 := rfl
@[simp] theorem setChannel_res (i : Nat) (x : Channel) (s : State) : (setChannel i x s).res = s.res := rfl
@[simp] theorem setChannel_rdata (i : Nat) (x : Channel) (s : State) : (setChannel i x s).rdata = s.rdata := rfl
@[simp] theorem setChannel_active (i : Nat) (x : Channel) (s : State) : (setChannel i x s).active = s.active := rfl
@[simp] theorem setChannel_tick (i : Nat) (x : Channel) (s : State) : (setChannel i x s).tick = s.tick := rfl
@[simp] theorem setChannel_consumed (i : Nat) (x : Channel) (s : State) : (setChannel i x s).consumed = s.consumed := rfl
@[simp] theorem setChannel_clkBase (i : Nat) (x : Channel) (s : State) : (setChannel i x s).clkBase = s.clkBase := rfl
@[simp] theorem setChannel_clkRef (i : Nat) (x : Channel) (s : State) : (setChannel i x s).clkRef = s.clkRef := rfl
@[simp] theorem setChannel_queues (i : Nat) (x : Channel) (s : State) : (setChannel i x s).queues = s.queues := rfl
@[simp] theorem setChannel_ports (i : Nat) (x : Channel) (s : State) : (setChannel i x s).ports = s.ports := rfl
@[simp] theorem setChannel_timers (i : Nat) (x : Channel) (s : State) : (setChannel i x s).timers = s.timers := rfl
@[simp] theorem setChannel_switches (i : Nat) (x : Channel) (s : State) : (setChannel i x s).switches = s.switches := rfl
@[simp] theorem setChannel_channels (i : Nat) (x : Channel) (s : State) : (setChannel i x s).channels = s.channels.set i x := rfl
@[simp] theorem setChannel_pulses (i : Nat) (x : Channel) (s : State) : (setChannel i x s).pulses = s.pulses := rfl
@[simp] theorem setChannel_qmem (i : Nat) (x : Channel) (s : State) : (setChannel i x s).qmem = s.qmem := rfl
@[simp] theorem setChannel_out (i : Nat) (x : Channel) (s : State) : (setChannel i x s).out = s.out := rfl
@[simp] theorem setChannel_qmemSize (i : Nat) (x : Channel) (s : State) : (setChannel i x s).qmemSize = s.qmemSize := rfl
@[simp] theorem setChannel_lineMax (i : Nat) (x : Channel) (s : State) : (setChannel i x s).lineMax = s.lineMax := rfl
@[simp] theorem setChannel_inputs (i : Nat) (x : Channel) (s : State) : (setChannel i x s).inputs = s.inputs := rfl
@[simp] theorem setChannel_env (i : Nat) (x : Channel) (s : State) : (setChannel i x s).env = s.env := rfl
@[simp] theorem setChannel_hostData (i : Nat) (x : Channel) (s : State) : (setChannel i x s).hostData = s.hostData := rfl

/-! ### setPulse -/

@[simp] theorem setPulse_cmd (g : Nat) (x : Pulse) (s : State) : (setPulse g x s).cmd = s.cmd := rfl
@[simp] theorem setPulse_arg0 (g : Nat) (x : Pulse) (s : State) : (setPulse g x s).arg0 = s.arg0 := rfl
@[simp] theorem setPulse_arg1 (g : Nat) (x : Pulse) (s : State) : (setPulse g x s).arg1 = s.arg1 := rfl
@[simp] theorem setPulse_arg2 (g : Nat) (x : Pulse) (s : State) : (setPulse g x s).arg2 = s.arg2 := rfl
@[simp] theorem setPulse_arg3 (g : Nat) (x : Pulse) (s : State) : (setPulse g x s).arg3 = s.arg3 := rfl
@[simp] theorem setPulse_res (g : Nat) (x : Pulse) (s : State) : (setPulse g x s).res = s.res := rfl
@[simp] theorem setPulse_rdata (g : Nat) (x : Pulse) (s : State) : (setPulse g x s).rdata = s.rdata := rfl
@[simp] theorem setPulse_active (g : Nat) (x : Pulse) (s : State) : (setPulse g x s).active = s.active := rfl
@[simp] theorem setPulse_tick (g : Nat) (x : Pulse) (s : State) : (setPulse g x s).tick = s.tick := rfl
@[simp] theorem setPulse_consumed (g : Nat) (x : Pulse) (s : State) : (setPulse g x s).consumed = s.consumed := rfl
@[simp] theorem setPulse_clkBase (g : Nat) (x : Pulse) (s : State) : (setPulse g x s).clkBase = s.clkBase := rfl
@[simp] theorem setPulse_clkRef (g : Nat) (x : Pulse) (s : State) : (setPulse g x s).clkRef = s.clkRef := rfl
@[simp] theorem setPulse_queues (g : Nat) (x : Pulse) (s : State) : (setPulse g x s).queues = s.queues := rfl
@[simp] theorem setPulse_ports (g : Nat) (x : Pulse) (s : State) : (setPulse g x s).ports = s.ports := rfl
@[simp] theorem setPulse_timers (g : Nat) (x : Pulse) (s : State) : (setPulse g x s).timers = s.timers := rfl
@[simp] theorem setPulse_switches (g : Nat) (x : Pulse) (s : State) : (setPulse g x s).switches = s.switches := rfl
@[simp] theorem setPulse_channels (g : Nat) (x : Pulse) (s : State) : (setPulse g x s).channels = s.channels := rfl
@[simp] theorem setPulse_pulses (g : Nat) (x : Pulse) (s : State) : (setPulse g x s).pulses = s.pulses.set g x := rfl
@[simp] theorem setPulse_qmem (g : Nat) (x : Pulse) (s : State) : (setPulse g x s).qmem = s.qmem := rfl
@[simp] theorem setPulse_out (g : Nat) (x : Pulse) (s : State) : (setPulse g x s).out = s.out := rfl
@[simp] theorem setPulse_qmemSize (g : Nat) (x : Pulse) (s : State) : (setPulse g x s).qmemSize = s.qmemSize := rfl
@[simp] theorem setPulse_lineMax (g : Nat) (x : Pulse) (s : State) : (setPulse g x s).lineMax = s.lineMax := rfl
@[simp] theorem setPulse_inputs (g : Nat) (x : Pulse) (s : State) : (setPulse g x s).inputs = s.inputs := rfl
@[simp] theorem setPulse_env (g : Nat) (x : Pulse) (s : State) : (setPulse g x s).env = s.env := rfl
@[simp] theorem setPulse_hostData (g : Nat) (x : Pulse) (s : State) : (setPulse g x s).hostData = s.hostData := rfl

/-! ### emit -/

@[simp] theorem emit_cmd (rs : List Record) (s : State) : (emit rs s).cmd = s.cmd := rfl
@[simp] theorem emit_arg0 (rs : List Record) (s : State) : (emit rs s).arg0 = s.arg0 := rfl
@[simp] theorem emit_arg1 (rs : List Record) (s : State) : (emit rs s).arg1 = s.arg1 := rfl
@[simp] theorem emit_arg2 (rs : List Record) (s : State) : (emit rs s).arg2 = s.arg2 := rfl
@[simp] theorem emit_arg3 (rs : List Record) (s : State) : (emit rs s).arg3 = s.arg3 := rfl
@[simp] theorem emit_res (rs : List Record) (s : State) : (emit rs s).res = s.res := rfl
@[simp] theorem emit_rdata (rs : List Record) (s : State) : (emit rs s).rdata = s.rdata := rfl
@[simp] theorem emit_active (rs : List Record) (s : State) : (emit rs s).active = s.active := rfl
@[simp] theorem emit_tick (rs : List Record) (s : State) : (emit rs s).tick = s.tick := rfl
@[simp] theorem emit_consumed (rs : List Record) (s : State) : (emit rs s).consumed = s.consumed := rfl
@[simp] theorem emit_clkBase (rs : List Record) (s : State) : (emit rs s).clkBase = s.clkBase := rfl
@[simp] theorem emit_clkRef (rs : List Record) (s : State) : (emit rs s).clkRef = s.clkRef := rfl
@[simp] theorem emit_queues (rs : List Record) (s : State) : (emit rs s).queues = s.queues := rfl
@[simp] theorem emit_ports (rs : List Record) (s : State) : (emit rs s).ports = s.ports := rfl
@[simp] theorem emit_timers (rs : List Record) (s : State) : (emit rs s).timers = s.timers := rfl
@[simp] theorem emit_switches (rs : List Record) (s : State) : (emit rs s).switches = s.switches := rfl
@[simp] theorem emit_channels (rs : List Record) (s : State) : (emit rs s).channels = s.channels := rfl
@[simp] theorem emit_pulses (rs : List Record) (s : State) : (emit rs s).pulses = s.pulses := rfl
@[simp] theorem emit_qmem (rs : List Record) (s : State) : (emit rs s).qmem = s.qmem := rfl
@[simp] theorem emit_out (rs : List Record) (s : State) : (emit rs s).out = s.out ++ rs := rfl
@[simp] theorem emit_qmemSize (rs : List Record) (s : State) : (emit rs s).qmemSize = s.qmemSize := rfl
@[simp] theorem emit_lineMax (rs : List Record) (s : State) : (emit rs s).lineMax = s.lineMax := rfl
@[simp] theorem emit_inputs (rs : List Record) (s : State) : (emit rs s).inputs = s.inputs := rfl
@[simp] theorem emit_env (rs : List Record) (s : State) : (emit rs s).env = s.env := rfl
@[simp] theorem emit_hostData (rs : List Record) (s : State) : (emit rs s).hostData = s.hostData := rfl

/-! ### memWrite -/

@[simp] theorem memWrite_cmd (a : Nat) (b : Byte) (s : State) : (memWrite a b s).cmd = s.cmd := rfl
@[simp] theorem memWrite_arg0 (a : Nat) (b : Byte) (s : State) : (memWrite a b s).arg0 = s.arg0 := rfl
@[simp] theorem memWrite_arg1 (a : Nat) (b : Byte) (s : State) : (memWrite a b s).arg1 = s.arg1 := rfl
@[simp] theorem memWrite_arg2 (a : Nat) (b : Byte) (s : State) : (memWrite a b s).arg2 = s.arg2 := rfl
@[simp] theorem memWrite_arg3 (a : Nat) (b : Byte) (s : State) : (memWrite a b s).arg3 = s.arg3 := rfl
@[simp] theorem memWrite_res (a : Nat) (b : Byte) (s : State) : (memWrite a b s).res = s.res := rfl
@[simp] theorem memWrite_rdata (a : Nat) (b : Byte) (s : State) : (memWrite a b s).rdata = s.rdata := rfl
@[simp] theorem memWrite_active (a : Nat) (b : Byte) (s : State) : (memWrite a b s).active = s.active := rfl
@[simp] theorem memWrite_tick (a : Nat) (b : Byte) (s : State) : (memWrite a b s).tick = s.tick := rfl
@[simp] theorem memWrite_consumed (a : Nat) (b : Byte) (s : State) : (memWrite a b s).consumed = s.consumed := rfl
@[simp] theorem memWrite_clkBase (a : Nat) (b : Byte) (s : State) : (memWrite a b s).clkBase = s.clkBase := rfl
@[simp] theorem memWrite_clkRef (a : Nat) (b : Byte) (s : State) : (memWrite a b s).clkRef = s.clkRef := rfl
@[simp] theorem memWrite_queues (a : Nat) (b : Byte) (s : State) : (memWrite a b s).queues = s.queues := rfl
@[simp] theorem memWrite_ports (a : Nat) (b : Byte) (s : State) : (memWrite a b s).ports = s.ports := rfl
@[simp] theorem memWrite_timers (a : Nat) (b : Byte) (s : State) : (memWrite a b s).timers = s.timers := rfl
@[simp] theorem memWrite_switches (a : Nat) (b : Byte) (s : State) : (memWrite a b s).switches = s.switches := rfl
@[simp] theorem memWrite_channels (a : Nat) (b : Byte) (s : State) : (memWrite a b s).channels = s.channels := rfl
@[simp] theorem memWrite_pulses (a : Nat) (b : Byte) (s : State) : (memWrite a b s).pulses = s.pulses := rfl
@[simp] theorem memWrite_qmem (a : Nat) (b : Byte) (s : State) : (memWrite a b s).qmem = Table.insert a b s.qmem := rfl
@[simp] theorem memWrite_out (a : Nat) (b : Byte) (s : State) : (memWrite a b s).out = s.out := rfl
@[simp] theorem memWrite_qmemSize (a : Nat) (b : Byte) (s : State) : (memWrite a b s).qmemSize = s.qmemSize := rfl
@[simp] theorem memWrite_lineMax (a : Nat) (b : Byte) (s : State) : (memWrite a b s).lineMax = s.lineMax := rfl
@[simp] theorem memWrite_inputs (a : Nat) (b : Byte) (s : State) : (memWrite a b s).inputs = s.inputs := rfl
@[simp] theorem memWrite_env (a : Nat) (b : Byte) (s : State) : (memWrite a b s).env = s.env := rfl
@[simp] theorem memWrite_hostData (a : Nat) (b : Byte) (s : State) : (memWrite a b s).hostData = s.hostData := rfl

/-! ### setEnv -/

@[simp] theorem setEnv_cmd (e : Env) (s : State) : (setEnv e s).cmd = s.cmd := rfl
@[simp] theorem setEnv_arg0 (e : Env) (s : State) : (setEnv e s).arg0 = s.arg0 := rfl
@[simp] theorem setEnv_arg1 (e : Env) (s : State) : (setEnv e s).arg1 = s.arg1 := rfl
@[simp] theorem setEnv_arg2 (e : Env) (s : State) : (setEnv e s).arg2 = s.arg2 := rfl
@[simp] theorem setEnv_arg3 (e : Env) (s : State) : (setEnv e s).arg3 = s.arg3 := rfl
@[simp] theorem setEnv_res (e : Env) (s : State) : (setEnv e s).res = s.res := rfl
@[simp] theorem setEnv_rdata (e : Env) (s : State) : (setEnv e s).rdata = s.rdata := rfl
@[simp] theorem setEnv_active (e : Env) (s : State) : (setEnv e s).active = s.active := rfl
@[simp] theorem setEnv_tick (e : Env) (s : State) : (setEnv e s).tick = s.tick := rfl
@[simp] theorem setEnv_consumed (e : Env) (s : State) : (setEnv e s).consumed = s.consumed := rfl
@[simp] theorem setEnv_clkBase (e : Env) (s : State) : (setEnv e s).clkBase = s.clkBase := rfl
@[simp] theorem setEnv_clkRef (e : Env) (s : State) : (setEnv e s).clkRef = s.clkRef := rfl
@[simp] theorem setEnv_queues (e : Env) (s : State) : (setEnv e s).queues = s.queues := rfl
@[simp] theorem setEnv_ports (e : Env) (s : State) : (setEnv e s).ports = s.ports := rfl
@[simp] theorem setEnv_timers (e : Env) (s : State) : (setEnv e s).timers = s.timers := rfl
@[simp] theorem setEnv_switches (e : Env) (s : State) : (setEnv e s).switches = s.switches := rfl
@[simp] theorem setEnv_channels (e : Env) (s : State) : (setEnv e s).channels = s.channels := rfl
@[simp] theorem setEnv_pulses (e : Env) (s : State) : (setEnv e s).pulses = s.pulses := rfl
@[simp] theorem setEnv_qmem (e : Env) (s : State) : (setEnv e s).qmem = s.qmem := rfl
@[simp] theorem setEnv_out (e : Env) (s : State) : (setEnv e s).out = s.out := rfl
@[simp] theorem setEnv_qmemSize (e : Env) (s : State) : (setEnv e s).qmemSize = s.qmemSize := rfl
@[simp] theorem setEnv_lineMax (e : Env) (s : State) : (setEnv e s).lineMax = s.lineMax := rfl
@[simp] theorem setEnv_inputs (e : Env) (s : State) : (setEnv e s).inputs = s.inputs := rfl
@[simp] theorem setEnv_env (e : Env) (s : State) : (setEnv e s).env = e := rfl
@[simp] theorem setEnv_hostData (e : Env) (s : State) : (setEnv e s).hostData = s.hostData := rfl

/-! ### tickIrq -/

@[simp] theorem tickIrq_cmd (s : State) : (tickIrq s).cmd = s.cmd := rfl
@[simp] theorem tickIrq_arg0 (s : State) : (tickIrq s).arg0 = s.arg0 := rfl
@[simp] theorem tickIrq_arg1 (s : State) : (tickIrq s).arg1 = s.arg1 := rfl
@[simp] theorem tickIrq_arg2 (s : State) : (tickIrq s).arg2 = s.arg2 := rfl
@[simp] theorem tickIrq_arg3 (s : State) : (tickIrq s).arg3 = s.arg3 := rfl
@[simp] theorem tickIrq_res (s : State) : (tickIrq s).res = s.res := rfl
@[simp] theorem tickIrq_rdata (s : State) : (tickIrq s).rdata = s.rdata := rfl
@[simp] theorem tickIrq_active (s : State) : (tickIrq s).active = s.active := rfl
@[simp] theorem tickIrq_tick (s : State) : (tickIrq s).tick = s.tick + 1 := rfl
@[simp] theorem tickIrq_consumed (s : State) : (tickIrq s).consumed = s.consumed := rfl
@[simp] theorem tickIrq_clkBase (s : State) : (tickIrq s).clkBase = s.clkBase := rfl
@[simp] theorem tickIrq_clkRef (s : State) : (tickIrq s).clkRef = s.clkRef := rfl
@[simp] theorem tickIrq_queues (s : State) : (tickIrq s).queues = s.queues := rfl
@[simp] theorem tickIrq_ports (s : State) : (tickIrq s).ports = s.ports := rfl
@[simp] theorem tickIrq_timers (s : State) : (tickIrq s).timers = s.timers := rfl
@[simp] theorem tickIrq_switches (s : State) : (tickIrq s).switches = s.switches := rfl
@[simp] theorem tickIrq_channels (s : State) : (tickIrq s).channels = s.channels := rfl
@[simp] theorem tickIrq_pulses (s : State) : (tickIrq s).pulses = s.pulses := rfl
@[simp] theorem tickIrq_qmem (s : State) : (tickIrq s).qmem = s.qmem := rfl
@[simp] theorem tickIrq_out (s : State) : (tickIrq s).out = s.out := rfl
@[simp] theorem tickIrq_qmemSize (s : State) : (tickIrq s).qmemSize = s.qmemSize := rfl
@[simp] theorem tickIrq_lineMax (s : State) : (tickIrq s).lineMax = s.lineMax := rfl
@[simp] theorem tickIrq_inputs (s : State) : (tickIrq s).inputs = s.inputs := rfl
@[simp] theorem tickIrq_env (s : State) : (tickIrq s).env = s.env := rfl
@[simp] theorem tickIrq_hostData (s : State) : (tickIrq s).hostData = s.hostData := rfl

/-! ### Parameters -/

@[simp] theorem finish_params (c : ResultCode) (s : State) : (finish c s).params = s.params := by simp [State.params]
@[simp] theorem raise_params (c : ResultCode) (s : State) : (raise c s).params = s.params := by simp [State.params]
@[simp] theorem finishData_params (v : Word) (s : State) : (finishData v s).params = s.params := by simp [State.params]
@[simp] theorem setQueue_params (q : Nat) (x : Queue) (s : State) : (setQueue q x s).params = s.params := by simp [State.params]
@[simp] theorem setPort_params (p : Nat) (x : Port) (s : State) : (setPort p x s).params = s.params := by simp [State.params]
@[simp] theorem setTimer_params (i : Nat) (x : Timer) (s : State) : (setTimer i x s).params = s.params := by simp [State.params]
@[simp] theorem setSwitch_params (i : Nat) (x : Switch) (s : State) : (setSwitch i x s).params = s.params := by simp [State.params]
@[simp] theorem setChannel_params (i : Nat) (x : Channel) (s : State) : (setChannel i x s).params = s.params := by simp [State.params]
@[simp] theorem setPulse_params (g : Nat) (x : Pulse) (s : State) : (setPulse g x s).params = s.params := by simp [State.params]
@[simp] theorem emit_params (rs : List Record) (s : State) : (emit rs s).params = s.params := by simp [State.params]
@[simp] theorem memWrite_params (a : Nat) (b : Byte) (s : State) : (memWrite a b s).params = s.params := by simp [State.params]
@[simp] theorem setEnv_params (e : Env) (s : State) : (setEnv e s).params = s.params := by simp [State.params]
@[simp] theorem tickIrq_params (s : State) : (tickIrq s).params = s.params := by simp [State.params]

end Sys2Proof.Machine
end

