-- ==== Sys2Proof/Laws/Memory.lean ====
section
/-! SUPPORT. Laws of the sparse tables: what a lookup sees of an insertion, and that every memory operation keeps the
canonical form. -/

namespace Sys2Proof.Machine

section
variable {α : Type}

@[simp] theorem Table.lookup_nil (k : Nat) : Table.lookup k ([] : List (Nat × α)) = none := rfl

/-- A lookup at the key just inserted sees the new value. -/
@[simp] theorem Table.lookup_insert_same (k : Nat) (v : α) (m : List (Nat × α)) :
    Table.lookup k (Table.insert k v m) = some v := by
  induction m with
  | nil => simp [Table.insert, Table.lookup]
  | cons c t ih =>
    obtain ⟨a, w⟩ := c
    simp only [Table.insert]
    split
    · simp [Table.lookup]
    · split
      · simp [Table.lookup]
      · rename_i h1 h2
        simp [Table.lookup, Ne.symm h2, ih]

/-- A lookup at another key does not see the insertion. -/
theorem Table.lookup_insert_ne {j k : Nat} (h : j ≠ k) (v : α) (m : List (Nat × α)) :
    Table.lookup j (Table.insert k v m) = Table.lookup j m := by
  induction m with
  | nil => simp [Table.insert, Table.lookup, Ne.symm h]
  | cons c t ih =>
    obtain ⟨a, w⟩ := c
    simp only [Table.insert]
    split
    · simp [Table.lookup, Ne.symm h]
    · split
      · rename_i h2
        subst h2
        simp [Table.lookup, Ne.symm h]
      · simp [Table.lookup, ih]

/-- The lookup after an insertion, both cases at once. -/
theorem Table.lookup_insert (j k : Nat) (v : α) (m : List (Nat × α)) :
    Table.lookup j (Table.insert k v m) = if j = k then some v else Table.lookup j m := by
  split
  · rename_i h
    subst h
    exact Table.lookup_insert_same _ _ _
  · rename_i h
    exact Table.lookup_insert_ne h v m

/-- The entries after an insertion are the new one and old ones. -/
theorem Table.mem_insert {k : Nat} {v : α} {m : List (Nat × α)} {c : Nat × α}
    (h : c ∈ Table.insert k v m) : c = (k, v) ∨ c ∈ m := by
  induction m with
  | nil => simpa [Table.insert] using h
  | cons d t ih =>
    obtain ⟨a, w⟩ := d
    simp only [Table.insert] at h
    split at h
    · simpa using h
    · split at h
      · rcases List.mem_cons.1 h with h | h
        · exact .inl h
        · exact .inr (List.mem_cons_of_mem _ h)
      · rcases List.mem_cons.1 h with h | h
        · exact .inr (h ▸ List.mem_cons_self)
        · exact (ih h).imp id (List.mem_cons_of_mem _)

/-- The canonical form of a longer table: the head key is below every other key and the rest is canonical. -/
theorem Table.wf_cons {a : Nat} {v : α} {t : List (Nat × α)} :
    Table.wf ((a, v) :: t) = true ↔ (∀ c ∈ t, a < c.1) ∧ Table.wf t = true := by
  induction t generalizing a v with
  | nil => simp [Table.wf]
  | cons d t ih =>
    obtain ⟨b, w⟩ := d
    simp only [Table.wf, Bool.and_eq_true, decide_eq_true_eq]
    constructor
    · rintro ⟨hab, hwf⟩
      refine ⟨?_, hwf⟩
      intro c hc
      rcases List.mem_cons.1 hc with rfl | hc
      · exact hab
      · exact lt_trans hab ((ih.1 hwf).1 c hc)
    · rintro ⟨h, hwf⟩
      exact ⟨h (b, w) List.mem_cons_self, hwf⟩

/-- An insertion keeps the canonical form. -/
theorem Table.insert_wf (k : Nat) (v : α) {m : List (Nat × α)} (h : Table.wf m = true) :
    Table.wf (Table.insert k v m) = true := by
  induction m with
  | nil => simp [Table.insert, Table.wf]
  | cons c t ih =>
    obtain ⟨a, w⟩ := c
    obtain ⟨hlt, hwf⟩ := Table.wf_cons.1 h
    simp only [Table.insert]
    split
    · rename_i hk
      refine Table.wf_cons.2 ⟨?_, h⟩
      intro c hc
      rcases List.mem_cons.1 hc with rfl | hc
      · exact hk
      · exact lt_trans hk (hlt c hc)
    · split
      · rename_i hk
        subst hk
        exact Table.wf_cons.2 ⟨hlt, hwf⟩
      · rename_i h1 h2
        refine Table.wf_cons.2 ⟨?_, ih hwf⟩
        intro c hc
        rcases Table.mem_insert hc with rfl | hc
        · exact lt_of_le_of_ne (Nat.le_of_not_lt h1) (Ne.symm h2)
        · exact hlt c hc

/-- In a canonical table a listed entry is what the lookup gives. -/
theorem Table.lookup_of_mem {m : List (Nat × α)} (h : Table.wf m = true) {k : Nat} {v : α} (hm : (k, v) ∈ m) :
    Table.lookup k m = some v := by
  induction m with
  | nil => cases hm
  | cons c t ih =>
    obtain ⟨a, w⟩ := c
    obtain ⟨hlt, hwf⟩ := Table.wf_cons.1 h
    rcases List.mem_cons.1 hm with hc | hc
    · cases hc
      simp [Table.lookup]
    · have : a ≠ k := Nat.ne_of_lt (hlt _ hc)
      simp [Table.lookup, this, ih hwf hc]

end

/-! ### QMEM -/

/-- The empty memory of the reset state is canonical. -/
@[simp] theorem Memory.wf_nil : Memory.wf [] = true := rfl

/-- QMEM at reset is canonical, whatever the parameters. -/
theorem State.resetOf_qmem_wf (c : Params) : Memory.wf (State.resetOf c).qmem = true := rfl

/-- A write keeps the canonical form. -/
theorem memWrite_wf (a : Nat) (b : Byte) {s : State} (h : Memory.wf s.qmem = true) :
    Memory.wf (memWrite a b s).qmem = true := Table.insert_wf a b h

/-- A read leaves QMEM as it was, so it keeps the canonical form. -/
@[simp] theorem memRead_qmem (a : Nat) (s : State) : (memRead a s).2.qmem = s.qmem := by
  unfold memRead
  split <;> rfl

/-- Read after write: the byte just written is read back, and nothing else changes. -/
theorem memRead_memWrite_same (a : Nat) (b : Byte) (s : State) :
    memRead a (memWrite a b s) = (b, memWrite a b s) := by
  simp [memRead]

end Sys2Proof.Machine
end

