-- ==== Sys2Proof/Laws/Ops.lean ====
section
/-! SUPPORT. What the shared operations of Machine/Ops.lean, Flags.lean and RingQueue.lean can do, each said once: later
proofs cite these lemmas instead of unfolding the operations. -/

namespace Sys2Proof.Machine

/-! ### Draws and reads change the environment only -/

@[simp] theorem drawPin_cmd (pin : Byte) (s : State) : (drawPin pin s).2.cmd = s.cmd := rfl
@[simp] theorem drawPin_arg0 (pin : Byte) (s : State) : (drawPin pin s).2.arg0 = s.arg0 := rfl
@[simp] theorem drawPin_arg1 (pin : Byte) (s : State) : (drawPin pin s).2.arg1 = s.arg1 := rfl
@[simp] theorem drawPin_arg2 (pin : Byte) (s : State) : (drawPin pin s).2.arg2 = s.arg2 := rfl
@[simp] theorem drawPin_arg3 (pin : Byte) (s : State) : (drawPin pin s).2.arg3 = s.arg3 := rfl
@[simp] theorem drawPin_res (pin : Byte) (s : State) : (drawPin pin s).2.res = s.res := rfl
@[simp] theorem drawPin_rdata (pin : Byte) (s : State) : (drawPin pin s).2.rdata = s.rdata := rfl
@[simp] theorem drawPin_active (pin : Byte) (s : State) : (drawPin pin s).2.active = s.active := rfl
@[simp] theorem drawPin_tick (pin : Byte) (s : State) : (drawPin pin s).2.tick = s.tick := rfl
@[simp] theorem drawPin_consumed (pin : Byte) (s : State) : (drawPin pin s).2.consumed = s.consumed := rfl
@[simp] theorem drawPin_clkBase (pin : Byte) (s : State) : (drawPin pin s).2.clkBase = s.clkBase := rfl
@[simp] theorem drawPin_clkRef (pin : Byte) (s : State) : (drawPin pin s).2.clkRef = s.clkRef := rfl
@[simp] theorem drawPin_queues (pin : Byte) (s : State) : (drawPin pin s).2.queues = s.queues := rfl
@[simp] theorem drawPin_ports (pin : Byte) (s : State) : (drawPin pin s).2.ports = s.ports := rfl
@[simp] theorem drawPin_timers (pin : Byte) (s : State) : (drawPin pin s).2.timers = s.timers := rfl
@[simp] theorem drawPin_switches (pin : Byte) (s : State) : (drawPin pin s).2.switches = s.switches := rfl
@[simp] theorem drawPin_channels (pin : Byte) (s : State) : (drawPin pin s).2.channels = s.channels := rfl
@[simp] theorem drawPin_pulses (pin : Byte) (s : State) : (drawPin pin s).2.pulses = s.pulses := rfl
@[simp] theorem drawPin_qmem (pin : Byte) (s : State) : (drawPin pin s).2.qmem = s.qmem := rfl
@[simp] theorem drawPin_out (pin : Byte) (s : State) : (drawPin pin s).2.out = s.out := rfl
@[simp] theorem drawPin_qmemSize (pin : Byte) (s : State) : (drawPin pin s).2.qmemSize = s.qmemSize := rfl
@[simp] theorem drawPin_lineMax (pin : Byte) (s : State) : (drawPin pin s).2.lineMax = s.lineMax := rfl
@[simp] theorem drawPin_inputs (pin : Byte) (s : State) : (drawPin pin s).2.inputs = s.inputs := rfl
@[simp] theorem drawPin_hostData (pin : Byte) (s : State) : (drawPin pin s).2.hostData = s.hostData := rfl
@[simp] theorem drawPin_params (pin : Byte) (s : State) : (drawPin pin s).2.params = s.params := rfl

@[simp] theorem drawAdc_cmd (ch : Byte) (s : State) : (drawAdc ch s).2.cmd = s.cmd := rfl
@[simp] theorem drawAdc_arg0 (ch : Byte) (s : State) : (drawAdc ch s).2.arg0 = s.arg0 := rfl
@[simp] theorem drawAdc_arg1 (ch : Byte) (s : State) : (drawAdc ch s).2.arg1 = s.arg1 := rfl
@[simp] theorem drawAdc_arg2 (ch : Byte) (s : State) : (drawAdc ch s).2.arg2 = s.arg2 := rfl
@[simp] theorem drawAdc_arg3 (ch : Byte) (s : State) : (drawAdc ch s).2.arg3 = s.arg3 := rfl
@[simp] theorem drawAdc_res (ch : Byte) (s : State) : (drawAdc ch s).2.res = s.res := rfl
@[simp] theorem drawAdc_rdata (ch : Byte) (s : State) : (drawAdc ch s).2.rdata = s.rdata := rfl
@[simp] theorem drawAdc_active (ch : Byte) (s : State) : (drawAdc ch s).2.active = s.active := rfl
@[simp] theorem drawAdc_tick (ch : Byte) (s : State) : (drawAdc ch s).2.tick = s.tick := rfl
@[simp] theorem drawAdc_consumed (ch : Byte) (s : State) : (drawAdc ch s).2.consumed = s.consumed := rfl
@[simp] theorem drawAdc_clkBase (ch : Byte) (s : State) : (drawAdc ch s).2.clkBase = s.clkBase := rfl
@[simp] theorem drawAdc_clkRef (ch : Byte) (s : State) : (drawAdc ch s).2.clkRef = s.clkRef := rfl
@[simp] theorem drawAdc_queues (ch : Byte) (s : State) : (drawAdc ch s).2.queues = s.queues := rfl
@[simp] theorem drawAdc_ports (ch : Byte) (s : State) : (drawAdc ch s).2.ports = s.ports := rfl
@[simp] theorem drawAdc_timers (ch : Byte) (s : State) : (drawAdc ch s).2.timers = s.timers := rfl
@[simp] theorem drawAdc_switches (ch : Byte) (s : State) : (drawAdc ch s).2.switches = s.switches := rfl
@[simp] theorem drawAdc_channels (ch : Byte) (s : State) : (drawAdc ch s).2.channels = s.channels := rfl
@[simp] theorem drawAdc_pulses (ch : Byte) (s : State) : (drawAdc ch s).2.pulses = s.pulses := rfl
@[simp] theorem drawAdc_qmem (ch : Byte) (s : State) : (drawAdc ch s).2.qmem = s.qmem := rfl
@[simp] theorem drawAdc_out (ch : Byte) (s : State) : (drawAdc ch s).2.out = s.out := rfl
@[simp] theorem drawAdc_qmemSize (ch : Byte) (s : State) : (drawAdc ch s).2.qmemSize = s.qmemSize := rfl
@[simp] theorem drawAdc_lineMax (ch : Byte) (s : State) : (drawAdc ch s).2.lineMax = s.lineMax := rfl
@[simp] theorem drawAdc_inputs (ch : Byte) (s : State) : (drawAdc ch s).2.inputs = s.inputs := rfl
@[simp] theorem drawAdc_hostData (ch : Byte) (s : State) : (drawAdc ch s).2.hostData = s.hostData := rfl
@[simp] theorem drawAdc_params (ch : Byte) (s : State) : (drawAdc ch s).2.params = s.params := rfl

@[simp] theorem drawTx_cmd (p : Byte) (s : State) : (drawTx p s).2.cmd = s.cmd := rfl
@[simp] theorem drawTx_arg0 (p : Byte) (s : State) : (drawTx p s).2.arg0 = s.arg0 := rfl
@[simp] theorem drawTx_arg1 (p : Byte) (s : State) : (drawTx p s).2.arg1 = s.arg1 := rfl
@[simp] theorem drawTx_arg2 (p : Byte) (s : State) : (drawTx p s).2.arg2 = s.arg2 := rfl
@[simp] theorem drawTx_arg3 (p : Byte) (s : State) : (drawTx p s).2.arg3 = s.arg3 := rfl
@[simp] theorem drawTx_res (p : Byte) (s : State) : (drawTx p s).2.res = s.res := rfl
@[simp] theorem drawTx_rdata (p : Byte) (s : State) : (drawTx p s).2.rdata = s.rdata := rfl
@[simp] theorem drawTx_active (p : Byte) (s : State) : (drawTx p s).2.active = s.active := rfl
@[simp] theorem drawTx_tick (p : Byte) (s : State) : (drawTx p s).2.tick = s.tick := rfl
@[simp] theorem drawTx_consumed (p : Byte) (s : State) : (drawTx p s).2.consumed = s.consumed := rfl
@[simp] theorem drawTx_clkBase (p : Byte) (s : State) : (drawTx p s).2.clkBase = s.clkBase := rfl
@[simp] theorem drawTx_clkRef (p : Byte) (s : State) : (drawTx p s).2.clkRef = s.clkRef := rfl
@[simp] theorem drawTx_queues (p : Byte) (s : State) : (drawTx p s).2.queues = s.queues := rfl
@[simp] theorem drawTx_ports (p : Byte) (s : State) : (drawTx p s).2.ports = s.ports := rfl
@[simp] theorem drawTx_timers (p : Byte) (s : State) : (drawTx p s).2.timers = s.timers := rfl
@[simp] theorem drawTx_switches (p : Byte) (s : State) : (drawTx p s).2.switches = s.switches := rfl
@[simp] theorem drawTx_channels (p : Byte) (s : State) : (drawTx p s).2.channels = s.channels := rfl
@[simp] theorem drawTx_pulses (p : Byte) (s : State) : (drawTx p s).2.pulses = s.pulses := rfl
@[simp] theorem drawTx_qmem (p : Byte) (s : State) : (drawTx p s).2.qmem = s.qmem := rfl
@[simp] theorem drawTx_out (p : Byte) (s : State) : (drawTx p s).2.out = s.out := rfl
@[simp] theorem drawTx_qmemSize (p : Byte) (s : State) : (drawTx p s).2.qmemSize = s.qmemSize := rfl
@[simp] theorem drawTx_lineMax (p : Byte) (s : State) : (drawTx p s).2.lineMax = s.lineMax := rfl
@[simp] theorem drawTx_inputs (p : Byte) (s : State) : (drawTx p s).2.inputs = s.inputs := rfl
@[simp] theorem drawTx_hostData (p : Byte) (s : State) : (drawTx p s).2.hostData = s.hostData := rfl
@[simp] theorem drawTx_params (p : Byte) (s : State) : (drawTx p s).2.params = s.params := rfl

/-- A read of QMEM changes the environment only. -/
theorem memRead_state (a : Nat) (s : State) : (memRead a s).2 = setEnv (memRead a s).2.env s := by
  unfold memRead
  split <;> rfl

@[simp] theorem memRead_cmd (a : Nat) (s : State) : (memRead a s).2.cmd = s.cmd := by rw [memRead_state]; rfl
@[simp] theorem memRead_arg0 (a : Nat) (s : State) : (memRead a s).2.arg0 = s.arg0 := by rw [memRead_state]; rfl
@[simp] theorem memRead_arg1 (a : Nat) (s : State) : (memRead a s).2.arg1 = s.arg1 := by rw [memRead_state]; rfl
@[simp] theorem memRead_arg2 (a : Nat) (s : State) : (memRead a s).2.arg2 = s.arg2 := by rw [memRead_state]; rfl
@[simp] theorem memRead_arg3 (a : Nat) (s : State) : (memRead a s).2.arg3 = s.arg3 := by rw [memRead_state]; rfl
@[simp] theorem memRead_res (a : Nat) (s : State) : (memRead a s).2.res = s.res := by rw [memRead_state]; rfl
@[simp] theorem memRead_rdata (a : Nat) (s : State) : (memRead a s).2.rdata = s.rdata := by rw [memRead_state]; rfl
@[simp] theorem memRead_active (a : Nat) (s : State) : (memRead a s).2.active = s.active := by rw [memRead_state]; rfl
@[simp] theorem memRead_tick (a : Nat) (s : State) : (memRead a s).2.tick = s.tick := by rw [memRead_state]; rfl
@[simp] theorem memRead_consumed (a : Nat) (s : State) : (memRead a s).2.consumed = s.consumed := by rw [memRead_state]; rfl
@[simp] theorem memRead_clkBase (a : Nat) (s : State) : (memRead a s).2.clkBase = s.clkBase := by rw [memRead_state]; rfl
@[simp] theorem memRead_clkRef (a : Nat) (s : State) : (memRead a s).2.clkRef = s.clkRef := by rw [memRead_state]; rfl
@[simp] theorem memRead_queues (a : Nat) (s : State) : (memRead a s).2.queues = s.queues := by rw [memRead_state]; rfl
@[simp] theorem memRead_ports (a : Nat) (s : State) : (memRead a s).2.ports = s.ports := by rw [memRead_state]; rfl
@[simp] theorem memRead_timers (a : Nat) (s : State) : (memRead a s).2.timers = s.timers := by rw [memRead_state]; rfl
@[simp] theorem memRead_switches (a : Nat) (s : State) : (memRead a s).2.switches = s.switches := by rw [memRead_state]; rfl
@[simp] theorem memRead_channels (a : Nat) (s : State) : (memRead a s).2.channels = s.channels := by rw [memRead_state]; rfl
@[simp] theorem memRead_pulses (a : Nat) (s : State) : (memRead a s).2.pulses = s.pulses := by rw [memRead_state]; rfl
@[simp] theorem memRead_out (a : Nat) (s : State) : (memRead a s).2.out = s.out := by rw [memRead_state]; rfl
@[simp] theorem memRead_qmemSize (a : Nat) (s : State) : (memRead a s).2.qmemSize = s.qmemSize := by rw [memRead_state]; rfl
@[simp] theorem memRead_lineMax (a : Nat) (s : State) : (memRead a s).2.lineMax = s.lineMax := by rw [memRead_state]; rfl
@[simp] theorem memRead_inputs (a : Nat) (s : State) : (memRead a s).2.inputs = s.inputs := by rw [memRead_state]; rfl
@[simp] theorem memRead_hostData (a : Nat) (s : State) : (memRead a s).2.hostData = s.hostData := by rw [memRead_state]; rfl
@[simp] theorem memRead_params (a : Nat) (s : State) : (memRead a s).2.params = s.params := by rw [memRead_state]; rfl

/-- A read of a written byte answers it and changes nothing. -/
theorem memRead_of_byte {a : Nat} {b : Byte} {s : State} (h : Table.lookup a s.qmem = some b) :
    memRead a s = (b, s) := by simp [memRead, h]

/-- A read of a byte nothing has written answers a free value, a fresh one for each draw. -/
theorem memRead_of_unwritten {a : Nat} {s : State} (h : Table.lookup a s.qmem = none) :
    memRead a s = (Config.unwrittenQmem s.env.draws a, setEnv { s.env with draws := s.env.draws + 1 } s) := by
  simp only [memRead, h]
  rfl

/-! ### Queue cores -/

/-- All that QPutCore can do. -/
theorem queuePut_eq_some {q : Nat} {b : Byte} {s t : State} :
    queuePut q b s = some t ↔ ∃ x, s.queues[q]? = some x ∧ x.count ≠ x.cap ∧
      t = setQueue q { x with put := nextSlot x.put x.cap, count := x.count + 1 } (memWrite (slotAddr x x.put) b s) := by
  unfold queuePut
  cases h : s.queues[q]? with
  | none => simp
  | some x =>
    by_cases hc : x.count = x.cap
    · simp [hc]
    · simp only [hc, if_false, Option.some.injEq]
      constructor
      · rintro rfl
        exact ⟨x, rfl, hc, rfl⟩
      · rintro ⟨y, rfl, -, rfl⟩
        rfl

/-- When QPutCore answers QueueFull on a queue that exists. -/
theorem queuePut_eq_none {q : Nat} {b : Byte} {s : State} {x : Queue} (h : s.queues[q]? = some x) :
    queuePut q b s = none ↔ x.count = x.cap := by
  unfold queuePut
  by_cases hc : x.count = x.cap <;> simp [h, hc]

/-- All that QGetCore can do. -/
theorem queueGet_eq_some {q : Nat} {b : Byte} {s t : State} :
    queueGet q s = some (b, t) ↔ ∃ x, s.queues[q]? = some x ∧ x.count ≠ 0 ∧ b = (memRead (slotAddr x x.get) s).1 ∧
      t = setQueue q { x with get := nextSlot x.get x.cap, count := x.count - 1 } (memRead (slotAddr x x.get) s).2 := by
  unfold queueGet
  cases h : s.queues[q]? with
  | none => simp
  | some x =>
    by_cases hc : x.count = 0
    · simp [hc]
    · simp only [hc, if_false, Option.some.injEq, Prod.mk.injEq]
      constructor
      · rintro ⟨rfl, rfl⟩
        exact ⟨x, rfl, hc, rfl, rfl⟩
      · rintro ⟨y, rfl, -, rfl, rfl⟩
        exact ⟨rfl, rfl⟩

/-- When QGetCore answers QueueEmpty on a queue that exists. -/
theorem queueGet_eq_none {q : Nat} {s : State} {x : Queue} (h : s.queues[q]? = some x) :
    queueGet q s = none ↔ x.count = 0 := by
  unfold queueGet
  by_cases hc : x.count = 0 <;> simp [h, hc]

/-- Writing lerr of a queue that exists. -/
theorem setLerr_of_queue {q : Nat} {c : ResultCode} {s : State} {x : Queue} (h : s.queues[q]? = some x) :
    setLerr q c s = setQueue q { x with lerr := c } s := by simp [setLerr, h]

/-- Writing lerr changes the queues only. -/
theorem setLerr_state (q : Nat) (c : ResultCode) (s : State) :
    setLerr q c s = { s with queues := (setLerr q c s).queues } := by
  unfold setLerr
  split <;> rfl

@[simp] theorem setLerr_cmd (q : Nat) (c : ResultCode) (s : State) : (setLerr q c s).cmd = s.cmd := by rw [setLerr_state]
@[simp] theorem setLerr_arg0 (q : Nat) (c : ResultCode) (s : State) : (setLerr q c s).arg0 = s.arg0 := by rw [setLerr_state]
@[simp] theorem setLerr_arg1 (q : Nat) (c : ResultCode) (s : State) : (setLerr q c s).arg1 = s.arg1 := by rw [setLerr_state]
@[simp] theorem setLerr_arg2 (q : Nat) (c : ResultCode) (s : State) : (setLerr q c s).arg2 = s.arg2 := by rw [setLerr_state]
@[simp] theorem setLerr_arg3 (q : Nat) (c : ResultCode) (s : State) : (setLerr q c s).arg3 = s.arg3 := by rw [setLerr_state]
@[simp] theorem setLerr_res (q : Nat) (c : ResultCode) (s : State) : (setLerr q c s).res = s.res := by rw [setLerr_state]
@[simp] theorem setLerr_rdata (q : Nat) (c : ResultCode) (s : State) : (setLerr q c s).rdata = s.rdata := by rw [setLerr_state]
@[simp] theorem setLerr_active (q : Nat) (c : ResultCode) (s : State) : (setLerr q c s).active = s.active := by rw [setLerr_state]
@[simp] theorem setLerr_tick (q : Nat) (c : ResultCode) (s : State) : (setLerr q c s).tick = s.tick := by rw [setLerr_state]
@[simp] theorem setLerr_consumed (q : Nat) (c : ResultCode) (s : State) : (setLerr q c s).consumed = s.consumed := by rw [setLerr_state]
@[simp] theorem setLerr_clkBase (q : Nat) (c : ResultCode) (s : State) : (setLerr q c s).clkBase = s.clkBase := by rw [setLerr_state]
@[simp] theorem setLerr_clkRef (q : Nat) (c : ResultCode) (s : State) : (setLerr q c s).clkRef = s.clkRef := by rw [setLerr_state]
@[simp] theorem setLerr_ports (q : Nat) (c : ResultCode) (s : State) : (setLerr q c s).ports = s.ports := by rw [setLerr_state]
@[simp] theorem setLerr_timers (q : Nat) (c : ResultCode) (s : State) : (setLerr q c s).timers = s.timers := by rw [setLerr_state]
@[simp] theorem setLerr_switches (q : Nat) (c : ResultCode) (s : State) : (setLerr q c s).switches = s.switches := by rw [setLerr_state]
@[simp] theorem setLerr_channels (q : Nat) (c : ResultCode) (s : State) : (setLerr q c s).channels = s.channels := by rw [setLerr_state]
@[simp] theorem setLerr_pulses (q : Nat) (c : ResultCode) (s : State) : (setLerr q c s).pulses = s.pulses := by rw [setLerr_state]
@[simp] theorem setLerr_qmem (q : Nat) (c : ResultCode) (s : State) : (setLerr q c s).qmem = s.qmem := by rw [setLerr_state]
@[simp] theorem setLerr_out (q : Nat) (c : ResultCode) (s : State) : (setLerr q c s).out = s.out := by rw [setLerr_state]
@[simp] theorem setLerr_qmemSize (q : Nat) (c : ResultCode) (s : State) : (setLerr q c s).qmemSize = s.qmemSize := by rw [setLerr_state]
@[simp] theorem setLerr_lineMax (q : Nat) (c : ResultCode) (s : State) : (setLerr q c s).lineMax = s.lineMax := by rw [setLerr_state]
@[simp] theorem setLerr_inputs (q : Nat) (c : ResultCode) (s : State) : (setLerr q c s).inputs = s.inputs := by rw [setLerr_state]
@[simp] theorem setLerr_hostData (q : Nat) (c : ResultCode) (s : State) : (setLerr q c s).hostData = s.hostData := by rw [setLerr_state]
@[simp] theorem setLerr_env (q : Nat) (c : ResultCode) (s : State) : (setLerr q c s).env = s.env := by rw [setLerr_state]

/-! ### Bank checks -/

/-- The object exists. -/
theorem onQueueSlot_of_some {q : Nat} {s : State} {x : Queue} (h : s.queues[q]? = some x) (k : Queue → State) :
    onQueueSlot q s k = k x := by simp [onQueueSlot, h]

/-- The identifier is out of range. -/
theorem onQueueSlot_of_none {q : Nat} {s : State} (h : s.queues[q]? = none) (k : Queue → State) :
    onQueueSlot q s k = raise .invalidArgument s := by simp [onQueueSlot, h]

/-- The object exists. -/
theorem onPort_of_some {p : Nat} {s : State} {x : Port} (h : s.ports[p]? = some x) (k : Port → State) :
    onPort p s k = k x := by simp [onPort, h]

/-- The identifier is out of range. -/
theorem onPort_of_none {p : Nat} {s : State} (h : s.ports[p]? = none) (k : Port → State) :
    onPort p s k = raise .invalidArgument s := by simp [onPort, h]

/-- The object exists. -/
theorem onTimer_of_some {i : Nat} {s : State} {x : Timer} (h : s.timers[i]? = some x) (k : Timer → State) :
    onTimer i s k = k x := by simp [onTimer, h]

/-- The identifier is out of range. -/
theorem onTimer_of_none {i : Nat} {s : State} (h : s.timers[i]? = none) (k : Timer → State) :
    onTimer i s k = raise .invalidArgument s := by simp [onTimer, h]

/-- The object exists. -/
theorem onSwitch_of_some {i : Nat} {s : State} {x : Switch} (h : s.switches[i]? = some x) (k : Switch → State) :
    onSwitch i s k = k x := by simp [onSwitch, h]

/-- The identifier is out of range. -/
theorem onSwitch_of_none {i : Nat} {s : State} (h : s.switches[i]? = none) (k : Switch → State) :
    onSwitch i s k = raise .invalidArgument s := by simp [onSwitch, h]

/-- The object exists. -/
theorem onChannel_of_some {i : Nat} {s : State} {x : Channel} (h : s.channels[i]? = some x) (k : Channel → State) :
    onChannel i s k = k x := by simp [onChannel, h]

/-- The identifier is out of range. -/
theorem onChannel_of_none {i : Nat} {s : State} (h : s.channels[i]? = none) (k : Channel → State) :
    onChannel i s k = raise .invalidArgument s := by simp [onChannel, h]

/-- The object exists. -/
theorem onPulse_of_some {g : Nat} {s : State} {x : Pulse} (h : s.pulses[g]? = some x) (k : Pulse → State) :
    onPulse g s k = k x := by simp [onPulse, h]

/-- The identifier is out of range. -/
theorem onPulse_of_none {g : Nat} {s : State} (h : s.pulses[g]? = none) (k : Pulse → State) :
    onPulse g s k = raise .invalidArgument s := by simp [onPulse, h]

/-- All that QCheck can do. -/
theorem onQueue_of_some {q : Nat} {s : State} {x : Queue} (h : s.queues[q]? = some x) (k : Queue → State) :
    onQueue q s k = if x.cap = 0 then raise .invalidArgument s else k x := by simp [onQueue, onQueueSlot, h]

/-- QCheck on an identifier out of range. -/
theorem onQueue_of_none {q : Nat} {s : State} (h : s.queues[q]? = none) (k : Queue → State) :
    onQueue q s k = raise .invalidArgument s := by simp [onQueue, onQueueSlot, h]

/-- All that TLive can do. -/
theorem onLiveTimer_of_some {i : Nat} {s : State} {x : Timer} (h : s.timers[i]? = some x) (k : Timer → State) :
    onLiveTimer i s k = if x.state = .deleted then raise .invalidArgument s else k x := by
  simp [onLiveTimer, onTimer, h]

/-- TLive on an identifier out of range. -/
theorem onLiveTimer_of_none {i : Nat} {s : State} (h : s.timers[i]? = none) (k : Timer → State) :
    onLiveTimer i s k = raise .invalidArgument s := by simp [onLiveTimer, onTimer, h]

/-- All that SLive can do. -/
theorem onLiveSwitch_of_some {i : Nat} {s : State} {x : Switch} (h : s.switches[i]? = some x) (k : Switch → State) :
    onLiveSwitch i s k = if x.valid then k x else raise .invalidArgument s := by
  simp [onLiveSwitch, onSwitch, h]

/-- SLive on an identifier out of range. -/
theorem onLiveSwitch_of_none {i : Nat} {s : State} (h : s.switches[i]? = none) (k : Switch → State) :
    onLiveSwitch i s k = raise .invalidArgument s := by simp [onLiveSwitch, onSwitch, h]

/-- All that ALive can do. -/
theorem onLiveChannel_of_some {i : Nat} {s : State} {x : Channel} (h : s.channels[i]? = some x) (k : Channel → State) :
    onLiveChannel i s k = if x.en then k x else raise .invalidArgument s := by
  simp [onLiveChannel, onChannel, h]

/-- ALive on an identifier out of range. -/
theorem onLiveChannel_of_none {i : Nat} {s : State} (h : s.channels[i]? = none) (k : Channel → State) :
    onLiveChannel i s k = raise .invalidArgument s := by simp [onLiveChannel, onChannel, h]

/-- All that GLive can do. -/
theorem onLivePulse_of_some {g : Nat} {s : State} {x : Pulse} (h : s.pulses[g]? = some x) (k : Pulse → State) :
    onLivePulse g s k = if x.state = .deleted then raise .invalidArgument s else k x := by
  simp [onLivePulse, onPulse, h]

/-- GLive on an identifier out of range. -/
theorem onLivePulse_of_none {g : Nat} {s : State} (h : s.pulses[g]? = none) (k : Pulse → State) :
    onLivePulse g s k = raise .invalidArgument s := by simp [onLivePulse, onPulse, h]

/-! ### The RX interrupt -/

/-- All that the RxIRQ step can do: nothing, or one successful put into the port's RX queue. -/
theorem rxIrq_cases (p : Nat) (b : Byte) (s : State) :
    rxIrq p b s = s ∨
    ∃ x y t, s.ports[p]? = some x ∧ s.queues[rxQueue p]? = some y ∧ y.cap ≠ 0 ∧
      queuePut (rxQueue p) b s = some t ∧ rxIrq p b s = t := by
  unfold rxIrq
  cases hp : s.ports[p]? with
  | none => exact .inl rfl
  | some x =>
    cases hq : s.queues[rxQueue p]? with
    | none => exact .inl rfl
    | some y =>
      by_cases hc : y.cap = 0
      · simp [hc]
      · cases ht : queuePut (rxQueue p) b s with
        | none => simp
        | some t => exact .inr ⟨x, y, t, rfl, rfl, hc, rfl, if_neg hc⟩

/-! ### Loops over a bank -/

/-- What every slot keeps, a pass keeps. -/
theorem foldl_keeps {P : State → Prop} {f : State → Nat → State} (hf : ∀ s i, P s → P (f s i)) (l : List Nat)
    {s : State} (h : P s) : P (l.foldl f s) := by
  induction l generalizing s with
  | nil => exact h
  | cons a l ih => exact ih (hf s a h)

end Sys2Proof.Machine
end

