-- ==== Sys2Proof/Laws/Passes.lean ====
section
/-! SUPPORT. What a pass of each unit can change, said once per pass, and the same for the shared steps of the host queue
commands, the waits and a round. A frame is an equation: the answer is the old state with only the named fields taken from
the answer. -/

namespace Sys2Proof.Machine

/-! ### Frames of the passes -/

/-- A timer pass (R330) changes the timers and OUT only. -/
theorem timerPass_state (s : State) :
    timerPass s = { s with timers := (timerPass s).timers, out := (timerPass s).out } := by
  refine foldl_keeps (P := fun t => t = { s with timers := t.timers, out := t.out }) ?_ _ rfl
  intro t i h
  unfold timerSlot
  split
  · rw [h]; rfl
  · exact h

/-- A switch pass (R380) changes the switches, OUT and the draws only. -/
theorem switchPass_state (s : State) :
    switchPass s = { s with switches := (switchPass s).switches, out := (switchPass s).out,
                            env := (switchPass s).env } := by
  refine foldl_keeps (P := fun t => t = { s with switches := t.switches, out := t.out, env := t.env }) ?_ _ rfl
  intro t i h
  unfold switchSlot
  split
  · exact h
  · split
    · split <;> (rw [h]; rfl)
    · exact h

/-- An analog pass (R430) changes the channels, OUT and the draws only. -/
theorem analogPass_state (s : State) :
    analogPass s = { s with channels := (analogPass s).channels, out := (analogPass s).out,
                            env := (analogPass s).env } := by
  refine foldl_keeps (P := fun t => t = { s with channels := t.channels, out := t.out, env := t.env }) ?_ _ rfl
  intro t i h
  unfold channelSlot
  split
  · exact h
  · split
    · rw [h]; rfl
    · exact h

/-- A PDS pass (R500) changes the generators and OUT only. -/
theorem pulsePass_state (s : State) :
    pulsePass s = { s with pulses := (pulsePass s).pulses, out := (pulsePass s).out } := by
  refine foldl_keeps (P := fun t => t = { s with pulses := t.pulses, out := t.out }) ?_ _ rfl
  intro t i h
  unfold pulseSlot
  split
  · rw [h]; rfl
  · exact h

/-- A get changes the queues and the draws only. -/
theorem queueGet_state {q : Nat} {b : Byte} {s t : State} (h : queueGet q s = some (b, t)) :
    t = { s with queues := t.queues, env := t.env } := by
  obtain ⟨x, -, -, -, rfl⟩ := queueGet_eq_some.mp h
  rw [memRead_state]; rfl

/-- The drain of the RX side (R280) changes the queues, the ports, OUT and the draws only. -/
theorem rxLoop_state (p : Nat) (n : Nat) (s : State) :
    rxLoop p n s = { s with queues := (rxLoop p n s).queues, ports := (rxLoop p n s).ports,
                            out := (rxLoop p n s).out, env := (rxLoop p n s).env } := by
  induction n generalizing s with
  | zero => rfl
  | succ n ih =>
    unfold rxLoop
    split
    · rfl
    · next b t h =>
      have ht := queueGet_state h
      split
      · exact ht ▸ rfl
      · rw [ih]; rw [ht]; rfl

/-- The drain of the TX side (R282) changes the queues, OUT and the draws only. -/
theorem txLoop_state (p : Nat) (n : Nat) (s : State) :
    txLoop p n s = { s with queues := (txLoop p n s).queues, out := (txLoop p n s).out,
                            env := (txLoop p n s).env } := by
  induction n generalizing s with
  | zero => rfl
  | succ n ih =>
    simp only [txLoop]
    split
    · split
      · rfl
      · next b t h =>
        have ht := queueGet_state h
        rw [ih, ht]; rfl
    · rfl

/-- SerialRx (R280) changes the queues, the ports, OUT and the draws only. -/
theorem serialRx_state (p : Nat) (s : State) :
    serialRx p s = { s with queues := (serialRx p s).queues, ports := (serialRx p s).ports,
                            out := (serialRx p s).out, env := (serialRx p s).env } := by
  unfold serialRx
  split
  · split
    · rfl
    · split
      · rfl
      · exact rxLoop_state ..
  · rfl

/-- SerialTx (R282) changes the queues, OUT and the draws only. -/
theorem serialTx_state (p : Nat) (s : State) :
    serialTx p s = { s with queues := (serialTx p s).queues, out := (serialTx p s).out,
                            env := (serialTx p s).env } := by
  unfold serialTx
  split
  · split
    · rfl
    · exact txLoop_state ..
  · rfl

/-- A serial pass (R283) changes the queues, the ports, OUT and the draws only. -/
theorem serialPass_state (s : State) :
    serialPass s = { s with queues := (serialPass s).queues, ports := (serialPass s).ports,
                            out := (serialPass s).out, env := (serialPass s).env } := by
  refine foldl_keeps (P := fun t => t = { s with queues := t.queues, ports := t.ports, out := t.out, env := t.env })
    ?_ _ rfl
  intro t i h
  have ha := serialRx_state i t
  have hb := serialTx_state i (serialRx i t)
  unfold serialPort
  generalize serialTx i (serialRx i t) = b at hb ⊢
  generalize serialRx i t = a at ha hb
  rw [hb, ha, h]

/-- A pass changes the banks, OUT and the draws only: never a host register, a system register or QMEM. -/
theorem runPass_state (p : Pass) (s : State) :
    runPass p s = { s with
      queues := (runPass p s).queues, ports := (runPass p s).ports, timers := (runPass p s).timers
      switches := (runPass p s).switches, channels := (runPass p s).channels, pulses := (runPass p s).pulses
      out := (runPass p s).out, env := (runPass p s).env } := by
  cases p
  · have h := timerPass_state s
    simp only [runPass]
    generalize timerPass s = t at h ⊢
    rw [h]
  · have h := switchPass_state s
    simp only [runPass]
    generalize switchPass s = t at h ⊢
    rw [h]
  · have h := analogPass_state s
    simp only [runPass]
    generalize analogPass s = t at h ⊢
    rw [h]
  · have h := pulsePass_state s
    simp only [runPass]
    generalize pulsePass s = t at h ⊢
    rw [h]
  · have h := serialPass_state s
    simp only [runPass]
    generalize serialPass s = t at h ⊢
    rw [h]

/-- A round (R523) changes the banks, OUT and the draws only. -/
theorem round_state (s : State) :
    round s = { s with
      queues := (round s).queues, ports := (round s).ports, timers := (round s).timers
      switches := (round s).switches, channels := (round s).channels, pulses := (round s).pulses
      out := (round s).out, env := (round s).env } := by
  unfold round
  have h1 := runPass_state .timer s
  generalize runPass .timer s = t1 at h1 ⊢
  have h2 := runPass_state .switch t1
  generalize runPass .switch t1 = t2 at h2 ⊢
  have h3 := runPass_state .analog t2
  generalize runPass .analog t2 = t3 at h3 ⊢
  have h4 := runPass_state .pulse t3
  generalize runPass .pulse t3 = t4 at h4 ⊢
  have h5 := runPass_state .serial t4
  generalize runPass .serial t4 = t5 at h5 ⊢
  rw [h5, h4, h3, h2, h1]

/-! ### Host queue commands and waits -/

/-- A host put (R203, R204): the byte is stored, or the queue is full; nothing else is possible. -/
theorem hostPut_eq {q : Nat} {b : Byte} {s : State} {x : Queue} (h : s.queues[q]? = some x) :
    hostPut q b s =
      if x.count = x.cap then { s with queues := s.queues.set q { x with lerr := .queueFull }
                                       res := .queueFull, active := none }
      else { s with
        qmem := Table.insert (slotAddr x x.put) b s.qmem
        queues := s.queues.set q { x with put := nextSlot x.put x.cap, count := x.count + 1, lerr := .ok }
        res := .ok, active := none } := by
  have hq : q < s.queues.length := (List.getElem?_eq_some_iff.mp h).1
  unfold hostPut queuePut
  rw [h]
  by_cases hc : x.count = x.cap
  · simp [hc, setLerr, h, setQueue, finish]
  · simp [hc, setLerr, setQueue, memWrite, finish, hq]

/-- A host get (R206, R204): the oldest byte leaves, or the queue is empty; nothing else is possible. -/
theorem hostGet_eq {q : Nat} {s : State} {x : Queue} (h : s.queues[q]? = some x) :
    hostGet q s =
      if x.count = 0 then { s with queues := s.queues.set q { x with lerr := .queueEmpty }
                                   res := .queueEmpty, active := none }
      else { s with
        queues := s.queues.set q { x with get := nextSlot x.get x.cap, count := x.count - 1, lerr := .ok }
        rdata := zext (memRead (slotAddr x x.get) s).1
        env := (memRead (slotAddr x x.get) s).2.env
        res := .ok, active := none } := by
  have hq : q < s.queues.length := (List.getElem?_eq_some_iff.mp h).1
  unfold hostGet queueGet
  rw [h]
  by_cases hc : x.count = 0
  · simp [hc, setLerr, h, setQueue, finish]
  · simp only [hc, if_false]
    rw [memRead_state]
    simp [setLerr, setQueue, finishData, finish, hq, setEnv]

/-- One poll of SER_WRITE_SYNC (R266): the byte leaves and the command ends, or it still waits. -/
theorem pollWriteSync_eq (p b : Byte) (s : State) :
    pollWriteSync p b s =
      if (drawTx p s).1 then
        { s with out := s.out ++ [.txByte p b], env := (drawTx p s).2.env, res := .ok, active := none }
      else { s with env := (drawTx p s).2.env, active := some (.serWriteSync p b) } := by
  simp only [pollWriteSync]
  split <;> rfl

/-- One poll of SER_READ_SYNC (R268): the oldest byte is taken and the command ends, or it still waits. -/
theorem pollReadSync_eq {p : Byte} {s : State} {x : Queue} (h : s.queues[rxQueue p.toNat]? = some x) :
    pollReadSync p s =
      if x.count = 0 then { s with active := some (.serReadSync p) } else hostGet (rxQueue p.toNat) s := by
  unfold pollReadSync hostGet
  by_cases hc : x.count = 0
  · have : queueGet (rxQueue p.toNat) s = none := (queueGet_eq_none h).mpr hc
    simp [hc, this]
  · obtain ⟨r, hr⟩ := Option.ne_none_iff_exists'.mp (fun e => hc ((queueGet_eq_none h).mp e))
    rw [if_neg hc, hr]

/-! ### The values the passes are made of -/

/-- The output value of a reading (R401) as a division. -/
theorem outputValue_eq (x : Channel) (r : Sample) :
    outputValue x r = BitVec.ofNat 10 (r.toNat / 2 ^ x.shift.toNat) := by
  apply BitVec.eq_of_toNat_eq
  have h : r.toNat / 2 ^ x.shift.toNat ≤ r.toNat := Nat.div_le_self _ _
  have := r.isLt
  simp only [outputValue, BitVec.toNat_ushiftRight, Nat.shiftRight_eq_div_pow, BitVec.toNat_ofNat]
  rw [Nat.mod_eq_of_lt]; omega

/-- The stage at the start of a cycle (R451, R463). -/
theorem stageOf_zero (x : Pulse) :
    stageOf x 0 = if x.head ≠ 0 then Stage.head else if x.act ≠ 0 then .active else .tail := by
  have h (v : Half) : v ≠ 0 ↔ 0 < v.toNat := by rw [Ne, ← BitVec.toNat_inj]; simp [Nat.pos_iff_ne_zero]
  simp only [stageOf, h]
  simp; split <;> simp_all

/-- A byte stored behind the partial line is the last of the longer line (R281). -/
theorem lineBytes_store (p : Nat) (x y : Port) (n : Nat) (b : Byte) (h : y.lb = Table.insert n b x.lb) :
    lineBytes p y (n + 1) = lineBytes p x n ++ [b] := by
  simp only [lineBytes, List.range_succ, List.map_append, List.map_cons, List.map_nil]
  congr 1
  · refine List.map_congr_left fun k hk => ?_
    have : k ≠ n := Nat.ne_of_lt (List.mem_range.1 hk)
    simp [lineByte, h, Table.lookup_insert, this]
  · simp [lineByte, h]

end Sys2Proof.Machine
end

