-- ==== Sys2Proof/Laws/PerInstr.lean ====
section
/-! SUPPORT. Statements made for each command: the family of LAWS.json and one lemma for each constructor of `Instr`. -/

namespace Sys2Proof.Laws.OpcodeInTable

/-- The OPC values of the table of 30_encoding.md R145; every other one is reserved (R147). -/
def opcodes : List Byte :=
  [0x00, 0x01, 0x02, 0x03, 0x04, 0x05, 0x06,
   0x10, 0x11, 0x12, 0x13, 0x14, 0x15, 0x16, 0x17,
   0x20, 0x21, 0x22, 0x23, 0x24, 0x25, 0x26, 0x27, 0x28, 0x2F,
   0x30, 0x31, 0x32, 0x33, 0x34, 0x35, 0x36, 0x37, 0x38, 0x39, 0x3A, 0x3F,
   0x40, 0x41, 0x42, 0x43, 0x44, 0x4F,
   0x50, 0x51, 0x52, 0x53, 0x5F,
   0x60, 0x61, 0x62, 0x63, 0x64, 0x65, 0x66, 0x67, 0x68, 0x69, 0x6A, 0x6B, 0x6C, 0x6D, 0x6F]

/-- The encoding of a command carries an OPC of the table, so it is never a reserved one. -/
def Statement (i : Instr) : Prop := opcOf (encode i) ∈ opcodes

/-- The OPC of a command word is in the table when the word was built from one that is. -/
theorem of_cmdWord {opc id : Byte} {imm : Half} (h : opc ∈ opcodes) : opcOf (cmdWord opc id imm) ∈ opcodes := by
  rwa [opcOf_cmdWord]

theorem nop : Statement .nop := of_cmdWord (by decide)
theorem dspConsume : Statement .dspConsume := of_cmdWord (by decide)
theorem dspPass : Statement .dspPass := of_cmdWord (by decide)
theorem dspRun : Statement .dspRun := of_cmdWord (by decide)
theorem sysRdf (sel : Byte) : Statement (.sysRdf sel) := of_cmdWord (by decide)
theorem clkGet : Statement .clkGet := of_cmdWord (by decide)
theorem clkSet : Statement .clkSet := of_cmdWord (by decide)
theorem qInit (q : Byte) : Statement (.qInit q) := of_cmdWord (by decide)
theorem qPut (q : Byte) (b : Byte) : Statement (.qPut q b) := of_cmdWord (by decide)
theorem qGet (q : Byte) : Statement (.qGet q) := of_cmdWord (by decide)
theorem qSpace (q : Byte) : Statement (.qSpace q) := of_cmdWord (by decide)
theorem qReset (q : Byte) : Statement (.qReset q) := of_cmdWord (by decide)
theorem qRdf (q : Byte) (sel : Byte) : Statement (.qRdf q sel) := of_cmdWord (by decide)
theorem qmRd : Statement .qmRd := of_cmdWord (by decide)
theorem qmWr (b : Byte) : Statement (.qmWr b) := of_cmdWord (by decide)
theorem serAttachByte (p : Byte) (cbw : Half) : Statement (.serAttachByte p cbw) := of_cmdWord (by decide)
theorem serAttachLine (p : Byte) (cbw : Half) : Statement (.serAttachLine p cbw) := of_cmdWord (by decide)
theorem serDetachByte (p : Byte) : Statement (.serDetachByte p) := of_cmdWord (by decide)
theorem serDetachLine (p : Byte) : Statement (.serDetachLine p) := of_cmdWord (by decide)
theorem serWrite (p : Byte) (b : Byte) : Statement (.serWrite p b) := of_cmdWord (by decide)
theorem serWriteSync (p : Byte) (b : Byte) : Statement (.serWriteSync p b) := of_cmdWord (by decide)
theorem serRead (p : Byte) : Statement (.serRead p) := of_cmdWord (by decide)
theorem serReadSync (p : Byte) : Statement (.serReadSync p) := of_cmdWord (by decide)
theorem serRdf (p : Byte) (sel : Byte) : Statement (.serRdf p sel) := of_cmdWord (by decide)
theorem serAdvance : Statement .serAdvance := of_cmdWord (by decide)
theorem tmrCreateInterval (i : Byte) (period : Half) : Statement (.tmrCreateInterval i period) := of_cmdWord (by decide)
theorem tmrCreateTimeout (i : Byte) (period : Half) : Statement (.tmrCreateTimeout i period) := of_cmdWord (by decide)
theorem tmrStart (i : Byte) : Statement (.tmrStart i) := of_cmdWord (by decide)
theorem tmrStop (i : Byte) : Statement (.tmrStop i) := of_cmdWord (by decide)
theorem tmrPause (i : Byte) : Statement (.tmrPause i) := of_cmdWord (by decide)
theorem tmrResume (i : Byte) : Statement (.tmrResume i) := of_cmdWord (by decide)
theorem tmrDelete (i : Byte) : Statement (.tmrDelete i) := of_cmdWord (by decide)
theorem tmrSetPeriod (i : Byte) (period : Half) : Statement (.tmrSetPeriod i period) := of_cmdWord (by decide)
theorem tmrSetMode (i : Byte) (mode : TimerMode) : Statement (.tmrSetMode i mode) := of_cmdWord (by decide)
theorem tmrSetCallback (i : Byte) (cbw : Half) : Statement (.tmrSetCallback i cbw) := of_cmdWord (by decide)
theorem tmrRdf (i : Byte) (sel : Byte) : Statement (.tmrRdf i sel) := of_cmdWord (by decide)
theorem tmrAdvance : Statement .tmrAdvance := of_cmdWord (by decide)
theorem swCreateDigital (i : Byte) (cbw : Half) : Statement (.swCreateDigital i cbw) := of_cmdWord (by decide)
theorem swCreateAnalog (i : Byte) (cbw : Half) : Statement (.swCreateAnalog i cbw) := of_cmdWord (by decide)
theorem swDelete (i : Byte) : Statement (.swDelete i) := of_cmdWord (by decide)
theorem swSetCallback (i : Byte) (cbw : Half) : Statement (.swSetCallback i cbw) := of_cmdWord (by decide)
theorem swRdf (i : Byte) (sel : Byte) : Statement (.swRdf i sel) := of_cmdWord (by decide)
theorem swAdvance : Statement .swAdvance := of_cmdWord (by decide)
theorem adcCreate (i : Byte) : Statement (.adcCreate i) := of_cmdWord (by decide)
theorem adcDelete (i : Byte) : Statement (.adcDelete i) := of_cmdWord (by decide)
theorem adcSetCallbacks (i : Byte) : Statement (.adcSetCallbacks i) := of_cmdWord (by decide)
theorem adcRdf (i : Byte) (sel : Byte) : Statement (.adcRdf i sel) := of_cmdWord (by decide)
theorem adcAdvance : Statement .adcAdvance := of_cmdWord (by decide)
theorem pdsCreateLow (g : Byte) : Statement (.pdsCreateLow g) := of_cmdWord (by decide)
theorem pdsCreateHigh (g : Byte) : Statement (.pdsCreateHigh g) := of_cmdWord (by decide)
theorem pdsCreateIdle (g : Byte) : Statement (.pdsCreateIdle g) := of_cmdWord (by decide)
theorem pdsCreateOneshot (g : Byte) : Statement (.pdsCreateOneshot g) := of_cmdWord (by decide)
theorem pdsCreateRepeat (g : Byte) : Statement (.pdsCreateRepeat g) := of_cmdWord (by decide)
theorem pdsCreateContinuous (g : Byte) : Statement (.pdsCreateContinuous g) := of_cmdWord (by decide)
theorem pdsCreatePwm (g : Byte) : Statement (.pdsCreatePwm g) := of_cmdWord (by decide)
theorem pdsSync (dst : Byte) (src : Byte) : Statement (.pdsSync dst src) := of_cmdWord (by decide)
theorem pdsSyncAll (g : Byte) : Statement (.pdsSyncAll g) := of_cmdWord (by decide)
theorem pdsRestart (g : Byte) : Statement (.pdsRestart g) := of_cmdWord (by decide)
theorem pdsStop (g : Byte) : Statement (.pdsStop g) := of_cmdWord (by decide)
theorem pdsDelete (g : Byte) : Statement (.pdsDelete g) := of_cmdWord (by decide)
theorem pdsSetInvert (g : Byte) (inv : Bool) : Statement (.pdsSetInvert g inv) := of_cmdWord (by decide)
theorem pdsRdf (g : Byte) (sel : Byte) : Statement (.pdsRdf g sel) := of_cmdWord (by decide)
theorem pdsAdvance : Statement .pdsAdvance := of_cmdWord (by decide)

end Sys2Proof.Laws.OpcodeInTable
end

