-- ==== Sys2Proof/Tests/Slice0.lean ====
section
/-! SUPPORT. The model's own tests: the checks of WellFormed.lean refuse an ill-formed choice each, every command's word
written out from the table of R145 decodes to it, and one small step or two for each command, with the values of the
examples in the command's rule of spec/. The witnesses of the statements are in Tests/Witnesses.lean. -/

namespace Sys2Proof.Tests

open Sys2Proof.Machine

/-! ### WellFormed: each check refuses an ill-formed choice of the parameters -/

theorem test_wf_reference : Params.reference.wf = true := by decide
theorem test_wf_no_timer : ({ Params.reference with nTimer := 0 } : Params).timerOk = false := by decide
theorem test_wf_too_many_timers : ({ Params.reference with nTimer := 257 } : Params).wf = false := by decide
theorem test_wf_no_switch : ({ Params.reference with nSwitch := 0 } : Params).switchOk = false := by decide
theorem test_wf_too_many_channels : ({ Params.reference with nAdc := 257 } : Params).adcOk = false := by decide
theorem test_wf_no_generator : ({ Params.reference with nPds := 0 } : Params).pdsOk = false := by decide
theorem test_wf_too_many_ports : ({ Params.reference with nPort := 129, nQueue := 256 } : Params).portOk = false := by decide
theorem test_wf_too_few_queues : ({ Params.reference with nPort := 2, nQueue := 3 } : Params).queueOk = false := by decide
theorem test_wf_qmem_too_large : ({ Params.reference with qmemSize := 65537 } : Params).qmemOk = false := by decide
theorem test_wf_line_too_large : ({ Params.reference with lineMax := 65536 } : Params).lineOk = false := by decide

/-! ### Decode: the words are {OPC, ID, IMM} of R141 with the OPC of R145, written out bit by bit -/

theorem test_decode_system :
    decode 0b00000000_00000000_0000000000000000 = .ok .nop ∧
    decode 0b00000001_00000000_0000000000000000 = .ok .dspConsume ∧
    decode 0b00000010_00000000_0000000000000000 = .ok .dspPass ∧
    decode 0b00000011_00000000_0000000000000000 = .ok .dspRun ∧
    decode 0b00000100_00000000_0000000000000010 = .ok (.sysRdf 2) ∧
    decode 0b00000101_00000000_0000000000000000 = .ok .clkGet ∧
    decode 0b00000110_00000000_0000000000000000 = .ok .clkSet := ⟨rfl, rfl, rfl, rfl, rfl, rfl, rfl⟩

theorem test_decode_queue :
    decode 0b00010000_00000011_0000000000000000 = .ok (.qInit 3) ∧
    decode 0b00010001_00000011_0000000001000001 = .ok (.qPut 3 0x41) ∧
    decode 0b00010010_00000011_0000000000000000 = .ok (.qGet 3) ∧
    decode 0b00010011_00000011_0000000000000000 = .ok (.qSpace 3) ∧
    decode 0b00010100_00000011_0000000000000000 = .ok (.qReset 3) ∧
    decode 0b00010101_00000011_0000000000000101 = .ok (.qRdf 3 5) ∧
    decode 0b00010110_00000000_0000000000000000 = .ok .qmRd ∧
    decode 0b00010111_00000000_0000000001111111 = .ok (.qmWr 0x7F) := ⟨rfl, rfl, rfl, rfl, rfl, rfl, rfl, rfl⟩

theorem test_decode_serial :
    decode 0b00100000_00000001_1000000000000011 = .ok (.serAttachByte 1 0x8003) ∧
    decode 0b00100001_00000001_1000000000000100 = .ok (.serAttachLine 1 0x8004) ∧
    decode 0b00100010_00000001_0000000000000000 = .ok (.serDetachByte 1) ∧
    decode 0b00100011_00000001_0000000000000000 = .ok (.serDetachLine 1) ∧
    decode 0b00100100_00000001_0000000001001000 = .ok (.serWrite 1 0x48) ∧
    decode 0b00100101_00000001_0000000000100001 = .ok (.serWriteSync 1 0x21) ∧
    decode 0b00100110_00000001_0000000000000000 = .ok (.serRead 1) ∧
    decode 0b00100111_00000001_0000000000000000 = .ok (.serReadSync 1) ∧
    decode 0b00101000_00000001_0000000000000110 = .ok (.serRdf 1 6) ∧
    decode 0b00101111_00000000_0000000000000000 = .ok .serAdvance := ⟨rfl, rfl, rfl, rfl, rfl, rfl, rfl, rfl, rfl, rfl⟩

theorem test_decode_timer :
    decode 0b00110000_00000010_0000000000001010 = .ok (.tmrCreateInterval 2 10) ∧
    decode 0b00110001_00000001_0000000000000101 = .ok (.tmrCreateTimeout 1 5) ∧
    decode 0b00110010_00000001_0000000000000000 = .ok (.tmrStart 1) ∧
    decode 0b00110011_00000001_0000000000000000 = .ok (.tmrStop 1) ∧
    decode 0b00110100_00000001_0000000000000000 = .ok (.tmrPause 1) ∧
    decode 0b00110101_00000001_0000000000000000 = .ok (.tmrResume 1) ∧
    decode 0b00110110_00000001_0000000000000000 = .ok (.tmrDelete 1) ∧
    decode 0b00110111_00000000_0000000000001000 = .ok (.tmrSetPeriod 0 8) ∧
    decode 0b00111000_00000000_0000000000000001 = .ok (.tmrSetMode 0 .timeout) ∧
    decode 0b00111001_00000000_0000000000000000 = .ok (.tmrSetCallback 0 0) ∧
    decode 0b00111010_00000001_0000000000000100 = .ok (.tmrRdf 1 4) ∧
    decode 0b00111111_00000000_0000000000000000 = .ok .tmrAdvance :=
  ⟨rfl, rfl, rfl, rfl, rfl, rfl, rfl, rfl, rfl, rfl, rfl, rfl⟩

theorem test_decode_switch :
    decode 0b01000000_00000001_1000000000000101 = .ok (.swCreateDigital 1 0x8005) ∧
    decode 0b01000001_00000001_1000000000000101 = .ok (.swCreateAnalog 1 0x8005) ∧
    decode 0b01000010_00000001_0000000000000000 = .ok (.swDelete 1) ∧
    decode 0b01000011_00000001_1000000000000111 = .ok (.swSetCallback 1 0x8007) ∧
    decode 0b01000100_00000001_0000000000001101 = .ok (.swRdf 1 13) ∧
    decode 0b01001111_00000000_0000000000000000 = .ok .swAdvance := ⟨rfl, rfl, rfl, rfl, rfl, rfl⟩

theorem test_decode_analog :
    decode 0b01010000_00000010_0000000000000000 = .ok (.adcCreate 2) ∧
    decode 0b01010001_00000010_0000000000000000 = .ok (.adcDelete 2) ∧
    decode 0b01010010_00000010_0000000000000000 = .ok (.adcSetCallbacks 2) ∧
    decode 0b01010011_00000010_0000000000001000 = .ok (.adcRdf 2 8) ∧
    decode 0b01011111_00000000_0000000000000000 = .ok .adcAdvance := ⟨rfl, rfl, rfl, rfl, rfl⟩

theorem test_decode_pulse :
    decode 0b01100000_00000011_0000000000000000 = .ok (.pdsCreateLow 3) ∧
    decode 0b01100001_00000011_0000000000000000 = .ok (.pdsCreateHigh 3) ∧
    decode 0b01100010_00000011_0000000000000000 = .ok (.pdsCreateIdle 3) ∧
    decode 0b01100011_00000011_0000000000000000 = .ok (.pdsCreateOneshot 3) ∧
    decode 0b01100100_00000011_0000000000000000 = .ok (.pdsCreateRepeat 3) ∧
    decode 0b01100101_00000011_0000000000000000 = .ok (.pdsCreateContinuous 3) ∧
    decode 0b01100110_00000011_0000000000000000 = .ok (.pdsCreatePwm 3) ∧
    decode 0b01100111_00000010_0000000000000011 = .ok (.pdsSync 2 3) ∧
    decode 0b01101000_00000010_0000000000000000 = .ok (.pdsSyncAll 2) ∧
    decode 0b01101001_00000010_0000000000000000 = .ok (.pdsRestart 2) ∧
    decode 0b01101010_00000010_0000000000000000 = .ok (.pdsStop 2) ∧
    decode 0b01101011_00000010_0000000000000000 = .ok (.pdsDelete 2) ∧
    decode 0b01101100_00000010_0000000000000001 = .ok (.pdsSetInvert 2 true) ∧
    decode 0b01101101_00000010_0000000000001100 = .ok (.pdsRdf 2 12) ∧
    decode 0b01101111_00000000_0000000000000000 = .ok .pdsAdvance :=
  ⟨rfl, rfl, rfl, rfl, rfl, rfl, rfl, rfl, rfl, rfl, rfl, rfl, rfl, rfl, rfl⟩

/-- R147: the values just outside the groups of the table are reserved. -/
theorem test_decode_reserved :
    decode 0x07000000 = .error (.reservedOpcode 0x07) ∧ decode 0x2E000000 = .error (.reservedOpcode 0x2E) ∧
    decode 0x6E000000 = .error (.reservedOpcode 0x6E) ∧ decode 0x70000000 = .error (.reservedOpcode 0x70) ∧
    decode 0xFF000000 = .error (.reservedOpcode 0xFF) := ⟨rfl, rfl, rfl, rfl, rfl⟩

/-- R150: the bits a command does not read are ignored. -/
theorem test_decode_ignored_bits :
    decode 0x0012FFFF = .ok .nop ∧ decode 0x1100AB41 = .ok (.qPut 0 0x41) ∧
    decode 0x3801FFFE = .ok (.tmrSetMode 1 .interval) := ⟨rfl, rfl, rfl⟩

/-! ### One step of each command -/

/-- The state after a command. -/
def after (i : Instr) (s : State) : State :=
  match exec i s with
  | .next t => t
  | .fault _ => s
  | .refused _ => s

/-- RC after reset with the given operand words, and RES and RDATA at values no test expects. -/
def withArgs (a0 a1 a2 a3 : Word) : State :=
  { State.reset with arg0 := a0, arg1 := a1, arg2 := a2, arg3 := a3, res := .genericError, rdata := 0x5A5A5A5A }

/-- The reset state with its queue 0 of capacity 4 at address 0 holding the byte 0x41. -/
def oneByte : State :=
  { State.reset with
    queues := State.reset.queues.set 0 { cap := 4, count := 1, put := 1, get := 0, lerr := .ok, base := 0 }
    qmem := [(0, 0x41)] }

/-- An interval timer in slot 0. -/
def timerAt (st : TimerState) (mode : TimerMode) (ticks reload : Half) : State :=
  { State.reset with
    timers := [{ state := st, mode := mode, ticks := ticks, reload := reload, alarm := 0, cb := 0x8001 }] }

/-- R522. -/
theorem test_nop : (after .nop (withArgs 0 0 0 0)).res = .ok ∧ (after .nop (withArgs 0 0 0 0)).rdata = 0x5A5A5A5A := by
  decide

/-- R524, its example: three ticks, then DSP_CONSUME returns 3; a second one returns 0. -/
theorem test_dsp_consume :
    let t := after .dspConsume (tickIrq (tickIrq (tickIrq State.reset)))
    t.rdata = 3 ∧ t.consumed = 3 ∧ (after .dspConsume t).rdata = 0 := by decide

/-- R525, its example: the first sub-step of DSP_PASS runs the timers and leaves BUSY 1. -/
theorem test_dsp_pass :
    let t := after .dspPass (timerAt .running .interval 0 1)
    t.out = [.tmrAlarm 0 1 1] ∧ busy t = true := by decide

/-- R526: with no pending tick DSP_RUN runs no round and returns 0. -/
theorem test_dsp_run_nothing_pending :
    let t := advance (after .dspRun (withArgs 0 0 0 0))
    t.rdata = 0 ∧ t.res = .ok ∧ t.out = [] ∧ busy t = false := by decide

/-- R528. -/
theorem test_sys_rdf :
    (after (.sysRdf 2) (tickIrq State.reset)).rdata = 1 ∧ (after (.sysRdf 5) State.reset).res = .invalidArgument := by
  decide

/-- R532, its example: 1500 ticks after reset the clock reads 0x5F4. -/
theorem test_clk_get : (after .clkGet { State.reset with tick := 1500 }).rdata = 0x000005F4 := by decide

/-- R531, its example: 12:00:00.000, and an hour out of range. -/
theorem test_clk_set :
    (after .clkSet (withArgs 0x03000000 0 0 0)).clkBase = 43200000 ∧
    (after .clkSet (withArgs 0x06000000 0 0 0)).res = .invalidArgument := by decide

/-- R200: the largest window that fits, and one byte more. -/
theorem test_q_init :
    (after (.qInit 0) (withArgs 0 256 0 0)).queues[0]? = some { Queue.reset with cap := 256 } ∧
    (after (.qInit 0) (withArgs 1 256 0 0)).res = .invalidArgument := by decide

/-- R205, its example, and the cursor wrap on the fourth byte. -/
theorem test_q_put :
    let s := after (.qInit 0) (withArgs 0 4 0 0)
    let t := after (.qPut 0 0x41) s
    t.qmem = [(0, 0x41)] ∧ t.queues[0]? = some { Queue.reset with cap := 4, count := 1, put := 1 } ∧
    ((after (.qPut 0 3) (after (.qPut 0 2) (after (.qPut 0 1) t))).queues.map (·.put)).head? = some 0 := by decide

/-- R205: a full queue keeps its bytes. -/
theorem test_q_put_full :
    let s := after (.qPut 0 0x41) (after (.qInit 0) (withArgs 0 1 0 0))
    let t := after (.qPut 0 0x42) s
    t.res = .queueFull ∧ t.qmem = [(0, 0x41)] ∧ t.queues.map (·.lerr) = [.queueFull, .ok, .ok, .ok] := by decide

/-- R207, its example, and the empty queue. -/
theorem test_q_get :
    let t := after (.qGet 0) oneByte
    t.rdata = 0x41 ∧ t.queues.map (·.count) = [0, 0, 0, 0] ∧ (after (.qGet 0) t).res = .queueEmpty ∧
    (after (.qGet 0) t).rdata = 0x41 := by decide

/-- R208, its example. -/
theorem test_q_space : (after (.qSpace 0) oneByte).rdata = 3 := by decide

/-- R209: the bytes stay. -/
theorem test_q_reset :
    let t := after (.qReset 0) oneByte
    (after (.qSpace 0) t).rdata = 4 ∧ t.qmem = [(0, 0x41)] := by decide

/-- R211. -/
theorem test_q_rdf : (after (.qRdf 0 1) oneByte).rdata = 1 ∧ (after (.qRdf 0 6) oneByte).res = .invalidArgument := by decide

/-- R220, its example. -/
theorem test_qm_rd : (after .qmRd oneByte).rdata = 0x41 := by decide

/-- R221, its example, and an address past QMEM. -/
theorem test_qm_wr :
    (after (.qmWr 0x7F) (withArgs 3 0 0 0)).qmem = [(3, 0x7F)] ∧
    (after (.qmWr 0x7F) (withArgs 256 0 0 0)).res = .invalidArgument := by decide

/-- R252, its example. -/
theorem test_ser_attach_byte :
    (after (.serAttachByte 0 0x8003) State.reset).ports.map (fun x => (x.be, x.bcb)) = [(true, 0x8003)] := by decide

/-- R253, its example, and a size above LINE_MAX. -/
theorem test_ser_attach_line :
    (after (.serAttachLine 0 0x8004) (withArgs 0x000A0008 0 0 0)).ports.map (fun x => (x.le, x.lsize, x.term)) =
      [(true, 8, 0x0A)] ∧
    (after (.serAttachLine 0 0x8004) (withArgs 65 0 0 0)).res = .invalidArgument := by decide

/-- R254. -/
theorem test_ser_detach_byte :
    (after (.serDetachByte 0) (after (.serAttachByte 0 0x8003) State.reset)).ports.map (fun x => (x.be, x.bcb)) =
      [(false, 0x8003)] := by decide

/-- R255. -/
theorem test_ser_detach_line :
    (after (.serDetachLine 0) { State.reset with
      ports := [{ Port.reset with le := true, lsize := 8, llen := 2, lstate := .accumulating }] }).ports.map
        (fun x => (x.le, x.llen, x.lstate)) = [(false, 0, .idle)] := by decide

/-- R264: the TX queue of port 0 is queue 1. -/
theorem test_ser_write :
    let s := after (.qInit 1) (withArgs 16 4 0 0)
    (after (.serWrite 0 0x48) s).queues.map (·.count) = [0, 1, 0, 0] ∧
    (after (.serWrite 0 0x48) s).qmem = [(16, 0x48)] := by decide

/-- R266, its example, and the wait. -/
theorem test_ser_write_sync :
    let s := fun b => { State.reset with env := { Env.reset with txs := [(0, [b])] } }
    (after (.serWriteSync 0 0x21) (s true)).out = [.txByte 0 0x21] ∧
    busy (after (.serWriteSync 0 0x21) (s false)) = true := by decide

/-- R267, its example. -/
theorem test_ser_read :
    (after (.serRead 0) (rxIrq 0 0x31 (after (.qInit 0) (withArgs 0 4 0 0)))).rdata = 0x31 := by decide

/-- R268, its example: the command waits and the RX byte lifts the wait. -/
theorem test_ser_read_sync :
    let s := after (.serReadSync 0) (after (.qInit 0) (withArgs 0 4 0 0))
    busy s = true ∧ (advance (rxIrq 0 0x0D s)).rdata = 0x0D ∧ busy (advance (rxIrq 0 0x0D s)) = false := by decide

/-- R269. -/
theorem test_ser_rdf :
    (after (.serRdf 0 6) { State.reset with ports := [{ Port.reset with llen := 2 }] }).rdata = 2 ∧
    (after (.serRdf 1 0) State.reset).res = .invalidArgument := by decide

/-- R270, its example. -/
theorem test_ser_advance :
    (after .serAdvance (after (.serAttachByte 0 0x8003) oneByte)).out = [.serByte 0 3 0x41] := by decide

/-- R281: a terminator delivers the line without itself; a full buffer delivers a line too. -/
theorem test_line_feed :
    let x := { Port.reset with le := true, lcb := 0x8004, lsize := 2, term := 0x0A }
    (lineFeed 0 (lineFeed 0 x 0x41).1 0x0A).2 = [.serLine 0 4 1 [0x41]] ∧
    (lineFeed 0 (lineFeed 0 x 0x41).1 0x42).2 = [.serLine 0 4 2 [0x41, 0x42]] ∧
    (lineFeed 0 x 0x0A).2 = [.serLine 0 4 0 []] := by decide

/-- R301, its example, and period 0. -/
theorem test_tmr_create_interval :
    (after (.tmrCreateInterval 0 10) (withArgs 0x8001 0 0 0)).timers.head? =
      some { state := .running, mode := .interval, ticks := 0, reload := 10, alarm := 0, cb := 0x8001 } ∧
    (after (.tmrCreateInterval 0 0) (withArgs 0x8001 0 0 0)).res = .invalidArgument := by decide

/-- R302, its example. -/
theorem test_tmr_create_timeout :
    ((after (.tmrCreateTimeout 1 5) (withArgs 0x8002 0 0 0)).timers.map fun x => (x.mode, x.reload))[1]? =
      some (.timeout, 5) := by decide

/-- R303: a stopped timeout is armed again. -/
theorem test_tmr_start :
    (after (.tmrStart 0) (timerAt .stopped .timeout 5 5)).timers.head?.map (fun x => (x.state, x.ticks)) =
      some (.running, 0) := by decide

/-- R304: ticks is kept. -/
theorem test_tmr_stop :
    (after (.tmrStop 0) (timerAt .running .interval 4 9)).timers.head?.map (fun x => (x.state, x.ticks)) =
      some (.stopped, 4) := by decide

/-- R305, its example, and a stopped timer. -/
theorem test_tmr_pause :
    (after (.tmrPause 0) (timerAt .running .interval 4 9)).timers.head?.map (fun x => (x.state, x.ticks)) =
      some (.paused, 4) ∧
    (after (.tmrPause 0) (timerAt .stopped .interval 4 9)).res = .genericError := by decide

/-- R306, its example. -/
theorem test_tmr_resume :
    (after .tmrAdvance (after (.tmrResume 0) (timerAt .paused .interval 4 9))).timers.head?.map (·.ticks) = some 5 ∧
    (after (.tmrResume 0) (timerAt .running .interval 4 9)).res = .genericError := by decide

/-- R307: the other fields stay; the deleted slot refuses TMR_START. -/
theorem test_tmr_delete :
    let t := after (.tmrDelete 0) (timerAt .running .interval 4 9)
    t.timers.head?.map (fun x => (x.state, x.reload)) = some (.deleted, 9) ∧
    (after (.tmrStart 0) t).res = .invalidArgument := by decide

/-- R308. -/
theorem test_tmr_set_period :
    (after (.tmrSetPeriod 0 8) (timerAt .running .interval 3 9)).timers.head?.map (fun x => (x.ticks, x.reload)) =
      some (3, 8) := by decide

/-- R309, its example: the next alarm stops the timer. -/
theorem test_tmr_set_mode :
    (after .tmrAdvance (after (.tmrSetMode 0 .timeout) (timerAt .running .interval 3 4))).timers.head?.map (·.state) =
      some .stopped := by decide

/-- R310: without EN the alarm is counted and not reported. -/
theorem test_tmr_set_callback :
    let t := after .tmrAdvance (after (.tmrSetCallback 0 0) (timerAt .running .interval 3 4))
    t.out = [] ∧ t.timers.head?.map (·.alarm) = some 1 := by decide

/-- R311. -/
theorem test_tmr_rdf :
    (after (.tmrRdf 0 0) (timerAt .stopped .timeout 5 5)).rdata = 3 ∧
    (after (.tmrRdf 0 3) (timerAt .stopped .timeout 5 7)).rdata = 7 := by decide

/-- R312, R330: the alarm of an interval timer, and the 16-bit wrap of ticks past a smaller period. -/
theorem test_tmr_advance :
    (after .tmrAdvance (timerAt .running .interval 3 4)).out = [.tmrAlarm 0 1 1] ∧
    (after .tmrAdvance (timerAt .running .interval 65535 4)).timers.head?.map (·.ticks) = some 0 := by decide

/-- A switch in slot 0. -/
def switchAt (x : Switch) : State := { State.reset with
  switches := State.reset.switches.set 0 x, env := { Env.reset with pins := [(3, [true])] } }

/-- R352, its fields from ARG0, ARG1 and ARG2. -/
theorem test_sw_create_digital :
    (after (.swCreateDigital 0 0x8005) (withArgs 0x00000103 0x00070004 2 0)).switches.head? =
      some { Switch.reset with
        valid := true, src := 3, onLevel := true, debounce := 4, hold := 7, rep := 2, cb := 0x8005 } ∧
    (after (.swCreateDigital 0 0) (withArgs 3 0x00070000 0 0)).res = .invalidArgument := by decide

/-- R353: tol 5, on_value 512 and channel 1; channel 4 is past the bank of RC. -/
theorem test_sw_create_analog :
    (after (.swCreateAnalog 0 0x8006) (withArgs 0x00160001 2 0 0)).switches.head? =
      some { Switch.reset with
        valid := true, mode := .analog, src := 1, onValue := 512, tol := 5, debounce := 2, cb := 0x8006 } ∧
    (after (.swCreateAnalog 0 0x8006) (withArgs 4 2 0 0)).res = .invalidArgument := by decide

/-- R354. -/
theorem test_sw_delete :
    (after (.swDelete 0) (switchAt { Switch.reset with valid := true, debounce := 4 })).switches.head? =
      some { Switch.reset with debounce := 4 } := by decide

/-- R355. -/
theorem test_sw_set_callback :
    (after (.swSetCallback 0 0x8007) (switchAt { Switch.reset with valid := true })).switches.head?.map (·.cb) =
      some 0x8007 ∧
    (after (.swSetCallback 1 0x8007) (switchAt Switch.reset)).res = .invalidArgument := by decide

/-- R356. -/
theorem test_sw_rdf :
    (after (.swRdf 0 6) (switchAt { Switch.reset with valid := true, state := .repeating })).rdata = 3 ∧
    (after (.swRdf 0 14) State.reset).res = .invalidArgument := by decide

/-- R357, R380: the last pass of the debounce window commits ON. -/
theorem test_sw_advance :
    let t := after .swAdvance
      (switchAt { Switch.reset with valid := true, src := 3, onLevel := true, debounce := 4, cnt := 3, cb := 0x8005 })
    t.out = [.swEvent 0 5 .on] ∧ t.switches.head?.map (fun x => (x.state, x.cnt, x.data)) = some (.on, 0, 1) := by decide

/-- R371: the window comparator at its lower edge and one below. -/
theorem test_in_window :
    inWindow { Switch.reset with onValue := 100, tol := 10 } 90 = true ∧
    inWindow { Switch.reset with onValue := 100, tol := 10 } 89 = false := by decide

/-- An analog channel in slot 0 whose next reading is `v`. -/
def channelAt (x : Channel) (v : Sample) : State := { State.reset with
  channels := State.reset.channels.set 0 x, env := { Env.reset with adcs := [(2, [v])] } }

/-- The channel of the example of R431: threshold 10, primed at 100. -/
def at100 : Channel :=
  { Channel.reset with en := true, primed := true, ch := 2, raw := 100, min := 100, max := 100, prev := 100, thr := 10,
                       evc := 0xFFFF, ccb := 0x8003 }

/-- R402, its example, and a shift of 10. -/
theorem test_adc_create :
    (after (.adcCreate 0) (withArgs 2 0x0000000A 0 0x00008003)).channels.head? =
      some { Channel.reset with en := true, ch := 2, thr := 10, evc := 0xFFFF, ccb := 0x8003 } ∧
    (after (.adcCreate 0) (withArgs 0xA02 0 0 0)).res = .invalidArgument := by decide

/-- R403. -/
theorem test_adc_delete :
    (after (.adcDelete 0) (channelAt at100 0)).channels.head? = some { at100 with en := false } := by decide

/-- R404. -/
theorem test_adc_set_callbacks :
    (after (.adcSetCallbacks 0) { channelAt at100 0 with arg3 := 0x80040000 }).channels.head? =
      some { at100 with ccb := 0, scb := 0x8004 } ∧
    (after (.adcSetCallbacks 1) State.reset).res = .invalidArgument := by decide

/-- R405: delta is sign-extended. -/
theorem test_adc_rdf :
    (after (.adcRdf 0 8) (channelAt { at100 with delta := 0x7F1 } 0)).rdata = 0xFFFFFFF1 := by decide

/-- R406, R431: 100 to 115 reports a change of 15, 100 to 105 none. -/
theorem test_adc_advance :
    (after .adcAdvance (channelAt at100 115)).out = [.adcChange 0 3 115 15] ∧
    (after .adcAdvance (channelAt at100 105)).out = [] := by decide

/-- A generator in slot 0. -/
def pulseAt (x : Pulse) : State := { State.reset with pulses := State.reset.pulses.set 0 x }

/-- The generator of the example of R457: oneshot, H 3, A 2, on pin 5. -/
def oneshot : Pulse :=
  { Pulse.reset with mode := .oneshot, state := .running, pin := 5, head := 3, act := 2, total := 5, stage := .head }

/-- The example of R459: continuous, H 0, A 1, T 2, on pin 7. -/
def continuous : Pulse :=
  { Pulse.reset with mode := .continuous, state := .running, pin := 7, out := true, act := 1, total := 2, stage := .active }

/-- R454, with the invert flag. -/
theorem test_pds_create_low : (after (.pdsCreateLow 0) (withArgs 0x105 0 0 0)).out = [.pinSet 5 true] := by decide

/-- R455, its example. -/
theorem test_pds_create_high : (after (.pdsCreateHigh 1) (withArgs 0x106 0 0 0)).out = [.pinSet 6 false] := by decide

/-- R456. -/
theorem test_pds_create_idle :
    (after (.pdsCreateIdle 2) (withArgs 7 0 0 0)).out = [] ∧
    ((after (.pdsCreateIdle 2) (withArgs 7 0 0 0)).pulses.map (·.mode))[2]? = some .idle := by decide

/-- R457, its example, and H + A = 65536. -/
theorem test_pds_create_oneshot :
    (after (.pdsCreateOneshot 0) (withArgs 5 0x00020003 0 0)).pulses.head? = some oneshot ∧
    (after (.pdsCreateOneshot 0) (withArgs 5 0x8000_8000 0 0)).res = .invalidArgument := by decide

/-- R458: H 1, A 1, T 4, C 3; C = 0 is refused. -/
theorem test_pds_create_repeat :
    (after (.pdsCreateRepeat 1) (withArgs 6 0x00010001 0x00030004 0)).out = [.pinSet 6 false] ∧
    (after (.pdsCreateRepeat 1) (withArgs 6 0x00010001 0x00000004 0)).res = .invalidArgument := by decide

/-- R459, its example. -/
theorem test_pds_create_continuous :
    (after (.pdsCreateContinuous 0) (withArgs 7 0x00010000 2 0)).pulses.head? = some continuous ∧
    (after (.pdsCreateContinuous 0) (withArgs 7 0x00010000 2 0)).out = [.pinSet 7 true] := by decide

/-- R460, its example: A 2, T 4, shift one half; ARG1[15:0] is ignored. -/
theorem test_pds_create_pwm :
    let t := after (.pdsCreatePwm 0) (withArgs 8 0x00020001 0x80000004 0)
    t.out = [.pinSet 8 false] ∧ t.pulses.head?.map (fun x => (x.phase, x.stage, x.head)) = some (2, .tail, 0) := by decide

/-- Two running continuous generators at different phases. -/
def twoContinuous : State := { State.reset with
  pulses := [continuous, { continuous with pin := 8, phase := 1, stage := .tail, out := false }, Pulse.reset] }

/-- R461: the destination takes phase and stage, and its pin is driven. -/
theorem test_pds_sync :
    let t := after (.pdsSync 0 1) twoContinuous
    t.out = [.pinSet 7 false] ∧ t.pulses.head?.map (fun x => (x.phase, x.stage)) = some (1, .tail) ∧
    (after (.pdsSync 0 2) twoContinuous).res = .invalidArgument := by decide

/-- R462. -/
theorem test_pds_sync_all :
    let t := after (.pdsSyncAll 0) twoContinuous
    t.out = [.pinSet 8 true] ∧ t.pulses.map (·.phase) = [0, 0, 0] := by decide

/-- R463, its example. -/
theorem test_pds_restart :
    let t := after (.pdsRestart 0) (pulseAt { oneshot with state := .completed, phase := 5, stage := .noStage })
    t.pulses.head? = some oneshot ∧ t.out = [.pinSet 5 false] := by decide

/-- R464: the pin keeps its level. -/
theorem test_pds_stop :
    let t := after (.pdsStop 0) (pulseAt continuous)
    t.out = [] ∧ t.pulses.head? = some { continuous with state := .completed, stage := .noStage } := by decide

/-- R465. -/
theorem test_pds_delete :
    (after (.pdsDelete 0) (pulseAt continuous)).pulses.head? =
      some { continuous with state := .deleted, stage := .noStage } := by decide

/-- R466, its example. -/
theorem test_pds_set_invert : (after (.pdsSetInvert 0 true) (pulseAt oneshot)).out = [.pinSet 5 true] := by decide

/-- R467: the derived tail of H 1, A 1, T 4. -/
theorem test_pds_rdf :
    (after (.pdsRdf 0 8) (pulseAt { continuous with head := 1, act := 1, total := 4 })).rdata = 2 := by decide

/-- R468, R502: the oneshot goes to pulse level at pass 3 and completes at pass 5. -/
theorem test_pds_advance :
    (after .pdsAdvance (pulseAt { oneshot with phase := 2 })).out = [.pinSet 5 true] ∧
    (after .pdsAdvance (pulseAt { oneshot with phase := 4, stage := .active, out := true })).out = [.pinSet 5 false] := by
  decide

/-! ### The host interface -/

/-- What one step leaves in a state, when it goes on. -/
def look {α : Type} (f : State → α) (s : State) : Option α :=
  match step s with
  | .next t => some (f t)
  | .fault _ => none
  | .refused _ => none

/-- R147: a reserved OPC finishes with GenericError. -/
theorem test_reserved_command :
    look (·.res) { State.reset with inputs := [.write 0 .word 0x07000000] } = some .genericError := by decide

/-- R35: while BUSY is 1 an ARG write is ignored. -/
theorem test_busy_ignores_writes :
    look (·.arg1) { State.reset with active := some (.dspPass none), inputs := [.write 8 .word 5] } = some 0 ∧
    look (·.arg1) { State.reset with inputs := [.write 8 .word 5] } = some 5 := by decide

/-- R32, R106: CMD and reserved offsets read 0. -/
theorem test_reads :
    look (·.hostData) { State.reset with cmd := 7, hostData := 9, inputs := [.read 0 .word] } = some 0 ∧
    look (·.hostData) { State.reset with rdata := 7, inputs := [.read 0x18 .word] } = some 7 ∧
    look (·.hostData) { State.reset with hostData := 9, inputs := [.read 0x20 .word] } = some 0 := by decide

/-- R108: a sub-word and a misaligned access have no step. -/
theorem test_illegal_access :
    look (·.res) { State.reset with inputs := [.read 0x14 .byte] } = none ∧
    look (·.res) { State.reset with inputs := [.write 6 .word 0] } = none := by decide

/-- R210: a byte for an uninitialised queue is dropped. -/
theorem test_rx_dropped : look (·.qmem) { State.reset with inputs := [.rx 0 0x31] } = some [] := by decide

/-- The host's view of a table word: decoded, and run as the first command after reset (R152, its example). -/
theorem test_fetch_word :
    decodeTableWord 32 0x3002000A = some (.tmrCreateInterval 2 10) ∧
    look (·.timers.map (·.reload)) (State.reset.withFetchWord 32 0x3002000A) = some [0, 0, 10, 0, 0, 0, 0, 0] := by decide

end Sys2Proof.Tests
end

