-- ==== Sys2Proof/Tests/Witnesses.lean ====
section
/-! SUPPORT. For every statement that has hypotheses, states and operands that meet them together, a clause at a time and at
the ends of each range. The states are `demo`, which meets the invariant of the whole state, and updates of it. -/

namespace Sys2Proof.Tests

open Sys2Proof.Machine

/-! ### The state of the witnesses -/

def emptyQueue : Queue := { cap := 4, count := 0, put := 2, get := 2, lerr := .ok, base := 0 }
def fullQueue : Queue := { cap := 4, count := 4, put := 1, get := 1, lerr := .ok, base := 4 }
def halfQueue : Queue := { cap := 4, count := 2, put := 1, get := 3, lerr := .queueEmpty, base := 8 }

/-- Both receivers attached, with a partial line of one byte. -/
def bothPort : Port :=
  { be := true, bcb := 0x8003, le := true, lcb := 0x8004, lsize := 3, term := 10, llen := 1, lstate := .accumulating,
    lb := [(0, 65)] }

def runningInterval : Timer := { state := .running, mode := .interval, ticks := 0, reload := 3, alarm := 0, cb := 0x8001 }
def runningTimeout : Timer := { runningInterval with mode := .timeout, cb := 0x8002 }

def offSwitch : Switch :=
  { Switch.reset with valid := true, src := 3, onLevel := true, debounce := 2, hold := 2, rep := 3, cb := 0x8005 }

def primedChannel : Channel :=
  { Channel.reset with en := true, primed := true, ch := 2, raw := 100, min := 90, max := 110, prev := 100, thr := 10,
                       evc := 0xFFFF, si := 2, ccb := 0x8006, scb := 0x8007 }

def oneshotPulse : Pulse :=
  { Pulse.reset with mode := .oneshot, state := .running, pin := 5, head := 1, act := 2, total := 3, stage := .head }
def repeatPulse : Pulse :=
  { Pulse.reset with mode := .repeating, state := .running, pin := 6, head := 1, act := 1, total := 3, cycles := 2
                     rem := 2, stage := .head }
def continuousPulse : Pulse :=
  { Pulse.reset with mode := .continuous, state := .running, pin := 7, head := 1, act := 1, total := 3, stage := .head }
def highPulse : Pulse := { Pulse.reset with mode := .high, state := .running, pin := 8, out := true }
def idlePulse : Pulse := { Pulse.reset with mode := .idle, state := .running, pin := 9 }
def donePulse : Pulse := { continuousPulse with state := .completed, stage := .noStage }

/-- A block with two ports and one object of every kind in most of its states. -/
def demo : State :=
  { State.reset with
    queues := [halfQueue, emptyQueue, emptyQueue, fullQueue, Queue.reset]
    ports := [bothPort, Port.reset]
    timers := [runningInterval, runningTimeout, { runningInterval with state := .paused },
      { runningTimeout with state := .stopped }, Timer.reset]
    switches := [offSwitch, { offSwitch with state := .on }, { offSwitch with mode := .analog, src := 0 }, Switch.reset]
    channels := [primedChannel, { primedChannel with primed := false }, Channel.reset]
    pulses := [oneshotPulse, repeatPulse, continuousPulse, highPulse, idlePulse, donePulse, Pulse.reset]
    qmem := [(4, 1), (5, 2), (6, 3), (7, 4), (8, 66), (11, 65)]
    qmemSize := 64, lineMax := 8
    env := { Env.reset with pins := [(3, [true])], adcs := [(2, [115])], txs := [(0, [true]), (1, [false])] } }

theorem demo_queues : ∀ x ∈ demo.queues, QueueInv demo.qmemSize x := by
  simp only [demo, List.forall_mem_cons]
  refine ⟨?_, ?_, ?_, ?_, ?_, by simp⟩ <;> (unfold QueueInv; decide)

theorem demo_ports : ∀ x ∈ demo.ports, PortInv demo.lineMax x := by
  simp only [demo, List.forall_mem_cons, PortInv]; decide

theorem demo_timers : ∀ x ∈ demo.timers, TimerInv x := by
  simp only [demo, List.forall_mem_cons, TimerInv]; decide

theorem demo_switches : ∀ x ∈ demo.switches, SwitchInv demo.channels.length x := by
  simp only [demo, List.forall_mem_cons]
  exact ⟨fun _ => ⟨by decide, by decide, by decide, rfl⟩, fun _ => ⟨by decide, by decide, by decide, by decide, by decide⟩,
    fun _ => ⟨by decide, by decide, by decide, rfl⟩, fun h => (nomatch h), fun _ h => (nomatch h)⟩

theorem demo_channels : ∀ x ∈ demo.channels, ChannelInv x := by
  simp only [demo, List.forall_mem_cons]
  refine ⟨?_, ?_, ?_, by simp⟩ <;> (unfold ChannelInv; decide)

theorem demo_pulses : ∀ x ∈ demo.pulses, PulseInv x := by
  simp only [demo, List.forall_mem_cons]
  refine ⟨?_, ?_, ?_, ?_, ?_, ?_, ?_, by simp⟩ <;>
    (unfold PulseInv; refine ⟨?_, ?_, ?_⟩ <;> simp only [PulseShape, PulseRuns, PulseRests] <;> decide)

theorem demo_inv : demo.Inv where
  params := by decide
  queues := demo_queues
  ports := demo_ports
  timers := demo_timers
  switches := demo_switches
  channels := demo_channels
  pulses := demo_pulses
  qmem := ⟨by decide, by decide⟩
  clock := by decide
  active := trivial

/-- `demo` with a run. -/
def demoWith (l : List Input) : State := { demo with inputs := l }

/-! ### The command word and the step -/

theorem witness_ReservedOpcodes :
    (∀ n ∈ [0x07, 0x0F, 0x18, 0x1F, 0x29, 0x2E, 0x3B, 0x3E, 0x45, 0x4E, 0x54, 0x5E, 0x6E, 0x70, 0xFF],
      (opcOf (BitVec.ofNat 32 (n * 2 ^ 24))).toNat = n) ∧
    (demoWith [.write 0x00 .word 0x07000000]).inputs = .write 0x00 .word 0x07000000 :: [] ∧
    busy (demoWith [.write 0x00 .word 0x07000000]) = false := by decide

theorem witness_StepRunsTheDecodedCommand :
    (demoWith [.write 0x00 .word 0x33000000, .tick]).inputs = .write 0x00 .word 0x33000000 :: [.tick] ∧
    busy (demoWith [.write 0x00 .word 0x33000000, .tick]) = false ∧ decode 0x33000000 = .ok (.tmrStop 0) ∧
    decodeTableWord 32 0x33000000 = some (.tmrStop 0) := ⟨rfl, rfl, rfl, rfl⟩

theorem witness_StepWithoutAnAccess :
    (demoWith []).inputs = [] ∧ (demoWith [.run, .tick]).inputs = .run :: [.tick] ∧
    (demoWith [.wait]).inputs = .wait :: [] ∧ busy (demoWith [.wait]) = false ∧
    busy { demoWith [.wait] with active := some (.dspPass none) } = true ∧ demo.active = none ∧
    (demoWith [.pin 3 [true, false]]).inputs = .pin 3 [true, false] :: [] ∧
    (demoWith [.adc 2 [7]]).inputs = .adc 2 [7] :: [] ∧
    (demoWith [.txReady 0 [true]]).inputs = .txReady 0 [true] :: [] := by decide

theorem witness_HostRegisters :
    (∀ n ∈ [0x00, 0x04, 0x08, 0x0C, 0x10, 0x14, 0x18, 0x1C, 0x20, 0xFFFFFFFC],
      (BitVec.ofNat 32 n).toNat = n ∧ (BitVec.ofNat 32 n).toNat % 4 = 0) ∧
    (demoWith [.read 0x14 .word]).inputs = .read 0x14 .word :: [] ∧
    (demoWith [.write 0x10 .word 5]).inputs = .write 0x10 .word 5 :: [] ∧ busy (demoWith [.write 0x10 .word 5]) = false ∧
    busy { demoWith [.write 0x10 .word 5] with active := some (.dspPass none) } = true := by decide

theorem witness_IllegalHostAccessStops :
    (AccessWidth.byte ≠ .word ∨ (0x14#32).toNat % 4 ≠ 0) ∧ (AccessWidth.half ≠ .word ∨ (0x14#32).toNat % 4 ≠ 0) ∧
    (AccessWidth.word ≠ .word ∨ (0x15#32).toNat % 4 ≠ 0) ∧ (AccessWidth.word ≠ .word ∨ (0xFFFFFFFF#32).toNat % 4 ≠ 0) ∧
    (demoWith [.read 0x14 .byte]).inputs = .read 0x14 .byte :: [] ∧
    (demoWith [.write 0x15 .word 0]).inputs = .write 0x15 .word 0 :: [] := by decide

/-! ### Interrupts and reset -/

theorem witness_TickInterrupt : (demoWith [.tick]).inputs = .tick :: [] := by decide

theorem witness_RxInterrupt :
    (demoWith [.rx 0 0x31]).inputs = .rx 0 0x31 :: [] ∧
    (0#8).toNat < demo.ports.length ∧ demo.queues[2 * (0#8).toNat]? = some halfQueue ∧ halfQueue.cap ≠ 0 ∧
    halfQueue.count ≠ halfQueue.cap ∧
    (1#8).toNat < demo.ports.length ∧ demo.queues[2 * (1#8).toNat]? = some emptyQueue ∧
    ({ demo with queues := [fullQueue, emptyQueue, Queue.reset] } : State).queues[2 * (0#8).toNat]? = some fullQueue ∧
    fullQueue.cap ≠ 0 ∧ fullQueue.count = fullQueue.cap ∧
    ({ demo with queues := [fullQueue, emptyQueue, Queue.reset] } : State).queues[2 * (1#8).toNat]? = some Queue.reset ∧
    Queue.reset.cap = 0 := by decide

theorem witness_InterruptFrame :
    (∃ t, step (demoWith [.tick]) = .next t) ∧ (∃ t, step (demoWith [.rx 0 0x31]) = .next t) ∧
    (∃ t, step (demoWith [.rx 9 0x31]) = .next t) ∧ (demoWith [.rx 0 0x31]).inputs = .rx 0 0x31 :: [] ∧
    demo.queues[2 * (0#8).toNat]? = some halfQueue ∧ demo.queues[2 * (9#8).toNat]? = none :=
  ⟨⟨_, rfl⟩, ⟨_, rfl⟩, ⟨_, rfl⟩, by decide, by decide, by decide⟩

theorem witness_InterruptsCommute :
    demo.Inv ∧ (0 : Byte) ≠ 1 ∧ demo.queues[2 * (0#8).toNat]? = some halfQueue ∧
    demo.queues[2 * (1#8).toNat]? = some emptyQueue ∧
    emptyQueue.base.toNat + emptyQueue.cap.toNat ≤ halfQueue.base.toNat :=
  ⟨demo_inv, by decide, by decide, by decide, by decide⟩

theorem witness_ExternalReset :
    (demoWith [.reset]).inputs = .reset :: [] ∧
    ({ demoWith [.reset] with active := some (.serReadSync 0) } : State).inputs = .reset :: [] := by decide

theorem witness_ResetMeetsInvariant :
    Params.reference.wf = true ∧
    ({ nTimer := 1, nSwitch := 1, nAdc := 1, nPds := 1, nPort := 1, nQueue := 2, qmemSize := 1, lineMax := 1 } :
      Params).wf = true ∧
    ({ nTimer := 256, nSwitch := 256, nAdc := 256, nPds := 256, nPort := 128, nQueue := 256, qmemSize := 65536,
       lineMax := 65535 } : Params).wf = true := by decide

theorem witness_StepKeepsInvariant :
    (demoWith [.write 0x00 .word 0x3F000000]).Inv ∧
    ∃ t, step (demoWith [.write 0x00 .word 0x3F000000]) = .next t :=
  ⟨{ demo_inv with active := trivial }, _, rfl⟩

theorem witness_AlignedRunsNeverStop :
    SafeInputs (demoWith [.write 0x00 .word 0x07000000, .tick, .rx 0 1, .read 0xFFFFFFFC .word, .reset, .wait]) := by
  unfold SafeInputs; decide

/-! ### All commands -/

theorem witness_FrameOfEveryCommand : (∃ t, exec .serAdvance demo = .next t) ∧ ∃ t, exec (.qPut 9 1) demo = .next t :=
  ⟨⟨_, rfl⟩, _, rfl⟩

theorem witness_StoresTouchOneByte :
    (∃ t, exec (.qPut 0 7) demo = .next t) ∧ demo.queues[(0#8).toNat]? = some halfQueue ∧
    demo.queues[(5#8).toNat]? = none ∧ (∃ t, exec (.serWrite 0 7) demo = .next t) ∧
    demo.queues[2 * (0#8).toNat + 1]? = some emptyQueue ∧ demo.queues[2 * (2#8).toNat + 1]? = none ∧
    (∃ t, exec (.qmWr 7) demo = .next t) ∧ (∃ t, exec (.qGet 0) demo = .next t) :=
  ⟨⟨_, rfl⟩, by decide, by decide, ⟨_, rfl⟩, by decide, by decide, ⟨_, rfl⟩, ⟨_, rfl⟩⟩

theorem witness_ErrorsHaveNoPartialEffect :
    (∃ t, exec (.tmrPause 3) demo = .next t ∧ t.active = none ∧ t.res = .genericError) ∧
    ∃ t, exec (.pdsCreateOneshot 0) demo = .next t ∧ t.active = none ∧ t.res = .invalidArgument :=
  ⟨⟨_, rfl, by decide, by decide⟩, ⟨_, rfl, by decide, by decide⟩⟩

/-- The operands of CLK_SET with the ignored bits 31:27 set, and those of SW_CREATE_ANALOG. -/
theorem witness_UnreadArgumentBitsAreIgnored :
    (∃ t, exec .clkSet demo = .next t) ∧
    demo.arg0 &&& (argMask .clkSet).1 = 0xF8000000 &&& (argMask .clkSet).1 ∧
    demo.arg1 &&& (argMask .clkSet).2.1 = 0xFFFFFFFF &&& (argMask .clkSet).2.1 ∧
    demo.arg0 &&& (argMask (.swCreateAnalog 0 0)).1 = 0xF0000000 &&& (argMask (.swCreateAnalog 0 0)).1 ∧
    demo.arg2 &&& (argMask (.swCreateAnalog 0 0)).2.2.1 = 0xFFFF0000 &&& (argMask (.swCreateAnalog 0 0)).2.2.1 ∧
    demo.arg3 &&& (argMask (.swCreateAnalog 0 0)).2.2.2 = 0xFFFFFFFF &&& (argMask (.swCreateAnalog 0 0)).2.2.2 :=
  ⟨⟨_, rfl⟩, by decide, by decide, by decide, by decide, by decide⟩

/-! ### System, dispatcher and clock -/

/-- 23:59:59.999 is legal; each field one above it is not. -/
theorem witness_ClockCommands :
    (0x05FBEFE7#32 : Word).extractLsb' 22 5 = 23 ∧ (0x05FBEFE7#32 : Word).extractLsb' 16 6 = 59 ∧
    (0x05FBEFE7#32 : Word).extractLsb' 10 6 = 59 ∧ (0x05FBEFE7#32 : Word).extractLsb' 0 10 = 999 ∧
    (0x06000000#32 : Word).extractLsb' 22 5 = 24 ∧ (0x003C0000#32 : Word).extractLsb' 16 6 = 60 ∧
    (0x0000F000#32 : Word).extractLsb' 10 6 = 60 ∧ (0x000003E8#32 : Word).extractLsb' 0 10 = 1000 := by decide

theorem witness_ClockRunsFromItsSetting :
    0 < 2 ^ 32 ∧ 2 ^ 32 - 1 < 2 ^ 32 ∧
    ∃ t u, exec .clkSet { demo with arg0 := 0x05FBEFE7 } = .next t ∧ t.res = .ok ∧
      exec .clkGet { t with tick := t.tick + BitVec.ofNat 32 (2 ^ 32 - 1) } = .next u :=
  ⟨by decide, by decide, _, _, rfl, by decide, rfl⟩

theorem witness_DspPassRunsOneRound : demo.inputs = [] := by decide

theorem witness_DspRunRunsARoundPerTick :
    demo.inputs = [] ∧ (demo.tick - demo.consumed).toNat = 0 ∧
    ({ demo with tick := 2 } : State).inputs = [] ∧
    (({ demo with tick := 2 } : State).tick - ({ demo with tick := 2 } : State).consumed).toNat = 2 := by decide

/-! ### Field reads -/

theorem witness_FieldReadsOfSystemQueuesPorts :
    (0#8).toNat = 0 ∧ (4#8).toNat = 4 ∧ 5 ≤ (5#8).toNat ∧ 5 ≤ (255#8).toNat ∧
    demo.queues[(0#8).toNat]? = some halfQueue ∧ demo.queues[(4#8).toNat]? = some Queue.reset ∧ (5#8).toNat = 5 ∧
    6 ≤ (6#8).toNat ∧ demo.queues.length ≤ (5#8).toNat ∧ demo.queues.length ≤ (255#8).toNat ∧
    demo.ports[(0#8).toNat]? = some bothPort ∧ demo.ports[(1#8).toNat]? = some Port.reset ∧ (7#8).toNat = 7 ∧
    8 ≤ (8#8).toNat ∧ demo.ports.length ≤ (2#8).toNat := by decide

theorem witness_FieldReadsOfTimersSwitches :
    demo.timers[(0#8).toNat]? = some runningInterval ∧ demo.timers[(4#8).toNat]? = some Timer.reset ∧
    demo.timers.length ≤ (5#8).toNat ∧ 6 ≤ (6#8).toNat ∧ (5#8).toNat = 5 ∧
    demo.switches[(0#8).toNat]? = some offSwitch ∧ demo.switches[(3#8).toNat]? = some Switch.reset ∧
    demo.switches.length ≤ (4#8).toNat ∧ 14 ≤ (14#8).toNat ∧ (13#8).toNat = 13 := by decide

theorem witness_FieldReadsOfChannelsGenerators :
    demo.channels[(0#8).toNat]? = some primedChannel ∧ demo.channels[(2#8).toNat]? = some Channel.reset ∧
    demo.channels.length ≤ (3#8).toNat ∧ 16 ≤ (16#8).toNat ∧ (15#8).toNat = 15 ∧
    demo.pulses[(0#8).toNat]? = some oneshotPulse ∧ demo.pulses[(6#8).toNat]? = some Pulse.reset ∧
    demo.pulses.length ≤ (7#8).toNat ∧ 13 ≤ (13#8).toNat ∧ (12#8).toNat = 12 := by decide

/-! ### Queues -/

/-- Each refused operand, and the window that ends at the last byte of QMEM. -/
theorem witness_QInitResult :
    demo.queues.length ≤ (5#8).toNat ∧ (0x00010000#32 : Word).extractLsb' 0 16 = 0 ∧
    demo.qmemSize < ((1#32 : Word).extractLsb' 0 16).toNat + ((64#32 : Word).extractLsb' 0 16).toNat ∧
    (4#8).toNat < demo.queues.length ∧ (64#32 : Word).extractLsb' 0 16 ≠ 0 ∧
    ((0#32 : Word).extractLsb' 0 16).toNat + ((64#32 : Word).extractLsb' 0 16).toNat ≤ demo.qmemSize ∧
    ((63#32 : Word).extractLsb' 0 16).toNat + ((1#32 : Word).extractLsb' 0 16).toNat ≤ demo.qmemSize := by decide

theorem witness_QPutResult :
    demo.queues.length ≤ (5#8).toNat ∧ demo.queues[(4#8).toNat]? = some Queue.reset ∧ Queue.reset.cap = 0 ∧
    demo.queues[(3#8).toNat]? = some fullQueue ∧ fullQueue.cap ≠ 0 ∧ fullQueue.count = fullQueue.cap ∧
    demo.queues[(0#8).toNat]? = some halfQueue ∧ halfQueue.cap ≠ 0 ∧ halfQueue.count ≠ halfQueue.cap ∧
    demo.queues[(1#8).toNat]? = some emptyQueue ∧ emptyQueue.count ≠ emptyQueue.cap := by decide

theorem witness_QGetResult :
    demo.queues.length ≤ (5#8).toNat ∧ demo.queues[(4#8).toNat]? = some Queue.reset ∧ Queue.reset.cap = 0 ∧
    demo.queues[(1#8).toNat]? = some emptyQueue ∧ emptyQueue.cap ≠ 0 ∧ emptyQueue.count = 0 ∧
    demo.queues[(0#8).toNat]? = some halfQueue ∧ halfQueue.cap ≠ 0 ∧ halfQueue.count ≠ 0 ∧
    demo.byteAt (halfQueue.base.toNat + halfQueue.get.toNat) = some 65 := by decide

theorem witness_QSpaceAndReset :
    demo.queues.length ≤ (5#8).toNat ∧ (∃ x, demo.queues[(4#8).toNat]? = some x ∧ x.cap = 0) ∧
    demo.queues[(3#8).toNat]? = some fullQueue ∧ fullQueue.cap ≠ 0 ∧ fullQueue.count.toNat ≤ fullQueue.cap.toNat ∧
    demo.queues[(1#8).toNat]? = some emptyQueue ∧ emptyQueue.count.toNat ≤ emptyQueue.cap.toNat :=
  ⟨by decide, ⟨_, rfl, by decide⟩, by decide, by decide, by decide, by decide, by decide⟩

theorem witness_DirectQmemAccess :
    demo.qmemSize ≤ ((64#32 : Word).extractLsb' 0 16).toNat ∧
    ((63#32 : Word).extractLsb' 0 16).toNat < demo.qmemSize ∧ ((0x00010000#32 : Word).extractLsb' 0 16).toNat = 0 ∧
    demo.byteAt 8 = some 66 ∧ demo.byteAt 9 = none := by decide

theorem witness_QueueIsAFifo :
    demo.queues[(0#8).toNat]? = some halfQueue ∧ halfQueue.cap ≠ 0 ∧ QueueInv demo.qmemSize halfQueue ∧
    demo.queueBytes halfQueue = ([65, 66] : List Byte).map some ∧
    demo.queues[(1#8).toNat]? = some emptyQueue ∧ emptyQueue.cap ≠ 0 ∧ QueueInv demo.qmemSize emptyQueue ∧
    demo.queueBytes emptyQueue = ([] : List Byte).map some :=
  ⟨rfl, by decide, demo_queues _ (by simp [demo]), by decide, rfl, by decide, demo_queues _ (by simp [demo]), by decide⟩

/-! ### Serial ports -/

theorem witness_ReceiverConfiguration :
    demo.ports.length ≤ (2#8).toNat ∧ demo.ports[(1#8).toNat]? = some Port.reset ∧
    (0x000A0000#32 : Word).extractLsb' 0 16 = 0 ∧ demo.lineMax < ((9#32 : Word).extractLsb' 0 16).toNat ∧
    (8#32 : Word).extractLsb' 0 16 ≠ 0 ∧ ((8#32 : Word).extractLsb' 0 16).toNat ≤ demo.lineMax ∧
    ((1#32 : Word).extractLsb' 0 16).toNat ≤ demo.lineMax := by decide

theorem witness_SerialWriteAndRead :
    demo.ports.length ≤ (2#8).toNat ∧ (0#8).toNat < demo.ports.length ∧ (1#8).toNat < demo.ports.length ∧
    demo.queues[2 * (0#8).toNat + 1]? = some emptyQueue ∧ emptyQueue.cap ≠ 0 ∧ emptyQueue.count ≠ emptyQueue.cap ∧
    demo.queues[2 * (1#8).toNat + 1]? = some fullQueue ∧ fullQueue.cap ≠ 0 ∧ fullQueue.count = fullQueue.cap ∧
    demo.queues[2 * (0#8).toNat]? = some halfQueue ∧ halfQueue.cap ≠ 0 ∧ halfQueue.count ≠ 0 ∧
    demo.queues[2 * (1#8).toNat]? = some emptyQueue ∧ emptyQueue.count = 0 ∧
    ({ demo with queues := [Queue.reset, Queue.reset] } : State).queues[2 * (0#8).toNat + 1]? = some Queue.reset ∧
    Queue.reset.cap = 0 := by decide

theorem witness_SynchronousWrite :
    demo.ports.length ≤ (2#8).toNat ∧ (0#8).toNat < demo.ports.length ∧ (1#8).toNat < demo.ports.length ∧
    Table.lookup (0#8).toNat demo.env.txs = some [true] ∧ Table.lookup (1#8).toNat demo.env.txs = some [false] ∧
    ({ demo with active := some (.serWriteSync 1 7) } : State).active = some (.serWriteSync 1 7) ∧
    Table.lookup (0#8).toNat ({ demo.env with txs := [(0, [false, true])] } : Env).txs = some (false :: true :: []) ∧
    Table.lookup (1#8).toNat ({ demo.env with txs := [(1, [true, false, true])] } : Env).txs =
      some (true :: false :: [true]) := by decide

theorem witness_SynchronousRead :
    demo.ports.length ≤ (2#8).toNat ∧ (0#8).toNat < demo.ports.length ∧
    demo.queues[2 * (0#8).toNat]? = some halfQueue ∧ halfQueue.cap ≠ 0 ∧ halfQueue.count ≠ 0 ∧
    (1#8).toNat < demo.ports.length ∧ demo.queues[2 * (1#8).toNat]? = some emptyQueue ∧ emptyQueue.cap ≠ 0 ∧
    emptyQueue.count = 0 ∧ emptyQueue.get = emptyQueue.put ∧
    demo.queues[2 * (2#8).toNat]? = some Queue.reset ∧ Queue.reset.cap = 0 ∧
    ({ demo with active := some (.serReadSync 1) } : State).active = some (.serReadSync 1) := by decide

theorem witness_SerialPassDrainsReceivers :
    demo.ports[0]? = some bothPort ∧ demo.queues[2 * 0]? = some halfQueue ∧ halfQueue.cap ≠ 0 ∧
    (bothPort.be = true ∨ bothPort.le = true) ∧ demo.ports[1]? = some Port.reset ∧
    demo.queues[2 * 1]? = some emptyQueue ∧ emptyQueue.cap ≠ 0 ∧ Port.reset.be = false ∧ Port.reset.le = false ∧
    (let s : State := { demo with queues := [Queue.reset, Queue.reset] }
     s.ports[0]? = some bothPort ∧ s.queues[2 * 0]? = some Queue.reset ∧ s.queues[2 * 0 + 1]? = some Queue.reset ∧
     Queue.reset.cap = 0) := by
  decide

/-- A terminator, a byte below the buffer's end and the byte that fills it; the bytes of a partial line. -/
theorem witness_ReceiversGetEveryByteInOrder_lines :
    bothPort.term = 10 ∧ (66 : Byte) ≠ bothPort.term ∧ bothPort.llen.toNat + 1 < bothPort.lsize.toNat ∧
    ({ bothPort with llen := 2 } : Port).llen.toNat + 1 = bothPort.lsize.toNat ∧
    (∀ k < ([65] : List Byte).length, Table.lookup k bothPort.lb = ([65] : List Byte)[k]?) := by decide

theorem witness_ReceiversGetEveryByteInOrder :
    demo.ports[(0#8).toNat]? = some bothPort ∧ demo.queues[2 * (0#8).toNat]? = some halfQueue ∧ halfQueue.cap ≠ 0 ∧
    QueueInv demo.qmemSize halfQueue ∧ PortInv demo.lineMax bothPort ∧ (bothPort.be = true ∨ bothPort.le = true) ∧
    demo.queueBytes halfQueue = ([65, 66] : List Byte).map some ∧ bothPort.bcb.getLsbD 15 = true ∧
    bothPort.lcb.getLsbD 15 = true ∧
    ({ demo with ports := [{ Port.reset with be := true }] } : State).ports[(0#8).toNat]? =
      some { Port.reset with be := true } ∧ PortInv demo.lineMax { Port.reset with be := true } ∧
    ({ demo with ports := [{ bothPort with be := false }] } : State).ports[(0#8).toNat]? =
      some { bothPort with be := false } ∧ PortInv demo.lineMax { bothPort with be := false } := by
  refine ⟨rfl, rfl, by decide, demo_queues _ (by simp [demo]), demo_ports _ (by simp [demo]), by decide, by decide,
    by decide, by decide, rfl, ?_, rfl, ?_⟩ <;> (unfold PortInv; decide)

theorem witness_TransmitSendsAPrefix :
    ({ demo with queues := [halfQueue, fullQueue] } : State).queues[2 * (0#8).toNat + 1]? = some fullQueue ∧
    fullQueue.cap ≠ 0 ∧ QueueInv demo.qmemSize fullQueue ∧
    demo.queueBytes fullQueue = ([2, 3, 4, 1] : List Byte).map some ∧
    Table.lookup (0#8).toNat demo.env.txs = some [true] ∧
    demo.queues[2 * (1#8).toNat + 1]? = some fullQueue ∧ Table.lookup (1#8).toNat demo.env.txs = some [false] :=
  ⟨rfl, by decide, demo_queues _ (by simp [demo]), by decide, by decide, rfl, by decide⟩

/-! ### Timers -/

theorem witness_TimerCreate :
    demo.timers.length ≤ (5#8).toNat ∧ (4#8).toNat < demo.timers.length ∧ (1 : Half) ≠ 0 ∧ (65535 : Half) ≠ 0 := by decide

theorem witness_TimerControl :
    demo.timers.length ≤ (5#8).toNat ∧ (∃ x, demo.timers[(4#8).toNat]? = some x ∧ x.state = .deleted) ∧
    demo.timers[(0#8).toNat]? = some runningInterval ∧ runningInterval.state ≠ .deleted ∧
    runningInterval.state = .running ∧ runningInterval.state ≠ .paused ∧
    demo.timers[(2#8).toNat]? = some { runningInterval with state := .paused } ∧
    demo.timers[(3#8).toNat]? = some { runningTimeout with state := .stopped } ∧
    (1 : Half) ≠ 0 ∧ (65535 : Half) ≠ 0 :=
  ⟨by decide, ⟨_, rfl, rfl⟩, rfl, by decide, rfl, by decide, rfl, rfl, by decide, by decide⟩

theorem witness_TimerPass :
    Timer.reset.state ≠ .running ∧ runningInterval.state = .running ∧
    runningInterval.ticks + 1 ≠ runningInterval.reload ∧
    ({ runningInterval with ticks := 2 } : Timer).ticks + 1 = ({ runningInterval with ticks := 2 } : Timer).reload ∧
    ({ runningInterval with ticks := 65534, reload := 65535 } : Timer).ticks + 1 = 65535 ∧
    runningInterval.mode = .interval ∧ runningTimeout.mode = .timeout := by decide

theorem witness_TimerLaws :
    demo.timers.length ≤ 256 ∧ demo.timers[(0#8).toNat]? = some runningInterval ∧ runningInterval.state = .running ∧
    runningInterval.ticks = 0 ∧ runningInterval.alarm = 0 ∧ runningInterval.reload ≠ 0 ∧
    runningInterval.cb.getLsbD 15 = true ∧ runningInterval.mode = .interval ∧
    demo.timers[(1#8).toNat]? = some runningTimeout ∧ runningTimeout.state = .running ∧ runningTimeout.ticks = 0 ∧
    runningTimeout.alarm = 0 ∧ runningTimeout.reload ≠ 0 ∧ runningTimeout.cb.getLsbD 15 = true ∧
    runningTimeout.mode = .timeout ∧ 2 < runningTimeout.reload.toNat ∧ runningTimeout.reload.toNat ≤ 3 := by decide

/-! ### Switches -/

theorem witness_SwitchCommands :
    demo.switches.length ≤ (4#8).toNat ∧ (0x00020000#32 : Word).extractLsb' 0 16 = 0 ∧
    (3#8).toNat < demo.switches.length ∧ (0x00020001#32 : Word).extractLsb' 0 16 ≠ 0 ∧
    demo.channels.length ≤ ((3#32 : Word).extractLsb' 0 8).toNat ∧
    ((2#32 : Word).extractLsb' 0 8).toNat < demo.channels.length ∧
    (∃ x, demo.switches[(3#8).toNat]? = some x ∧ x.valid = false) ∧
    demo.switches[(0#8).toNat]? = some offSwitch ∧ offSwitch.valid = true :=
  ⟨by decide, by decide, by decide, by decide, by decide, by decide, ⟨_, rfl, rfl⟩, rfl, rfl⟩

theorem witness_SwitchPass :
    demo.switches[0]? = some offSwitch ∧ offSwitch.valid = true ∧ offSwitch.mode = .digital ∧
    Table.lookup offSwitch.src.toNat demo.env.pins = some [true] ∧
    demo.channels[({ offSwitch with mode := .analog, src := 0 } : Switch).src.toNat]? = some primedChannel ∧
    primedChannel.en = true ∧ primedChannel.primed = true ∧
    demo.channels[({ offSwitch with mode := .analog, src := 1 } : Switch).src.toNat]? =
      some { primedChannel with primed := false } ∧
    demo.channels[({ offSwitch with mode := .analog, src := 2 } : Switch).src.toNat]? = some Channel.reset ∧
    Channel.reset.en = false ∧
    (∀ st ∈ [SwitchState.off, .on, .hold, .repeating],
      ({ offSwitch with state := st, cnt := 65534, rcnt := 65534 } : Switch).cnt.toNat < 65535 ∧
      ({ offSwitch with state := st, cnt := 65534, rcnt := 65534 } : Switch).rcnt.toNat < 65535 ∧
      ({ offSwitch with state := st } : Switch).state = st) := by decide

theorem witness_SwitchLaws :
    offSwitch.debounce ≠ 0 ∧ offSwitch.state = .off ∧ offSwitch.cnt = 0 ∧ 0 < offSwitch.debounce.toNat ∧
    1 < offSwitch.debounce.toNat ∧
    (let x := { offSwitch with state := .on }
     x.state = .on ∧ x.cnt = 0 ∧ x.rcnt = 0 ∧ x.hold ≠ 0 ∧ x.rep ≠ 0 ∧ 0 < x.rep.toNat ∧ 2 < x.rep.toNat ∧
     x.state ≠ .off) := by decide

/-! ### Analog channels -/

theorem witness_AnalogCommands :
    demo.channels.length ≤ (3#8).toNat ∧ 9 < ((0xA00#32 : Word).extractLsb' 8 4).toNat ∧
    (2#8).toNat < demo.channels.length ∧ ((0x900#32 : Word).extractLsb' 8 4).toNat ≤ 9 ∧
    (∃ x, demo.channels[(2#8).toNat]? = some x ∧ x.en = false) ∧
    demo.channels[(0#8).toNat]? = some primedChannel ∧ primedChannel.en = true :=
  ⟨by decide, by decide, by decide, by decide, ⟨_, rfl, rfl⟩, rfl, rfl⟩

theorem witness_AnalogPass :
    demo.channels[0]? = some primedChannel ∧ primedChannel.en = true ∧
    Table.lookup primedChannel.ch.toNat demo.env.adcs = some [115] ∧ primedChannel.scnt.toNat < 65535 ∧
    ({ primedChannel with scnt := 65534, primed := false } : Channel).scnt.toNat < 65535 := by decide

theorem witness_AnalogLaws :
    ChannelInv primedChannel ∧ primedChannel.en = true ∧ primedChannel.primed = true ∧ primedChannel.evi = 0 ∧
    primedChannel.ccb.getLsbD 15 = true ∧ ChannelInv { primedChannel with primed := false } ∧
    primedChannel.si ≠ 0 ∧ primedChannel.scnt = 0 ∧ primedChannel.scb.getLsbD 15 = true ∧
    ChannelInv { primedChannel with evi := 3 } ∧
    (channelStep 0 { primedChannel with evi := 3 } 115).2.filter isChange ≠ [] ∧
    ([100, 130] : List Sample).length < ({ primedChannel with evi := 3 } : Channel).evi.toNat := by
  refine ⟨?_, by decide, by decide, by decide, by decide, ?_, by decide, by decide, by decide, ?_, by decide, by decide⟩ <;>
    (unfold ChannelInv; decide)

/-! ### Pulse generators -/

/-- Each refused pair of durations, and the largest and smallest accepted ones. -/
theorem witness_PulseCreate :
    demo.pulses.length ≤ (7#8).toNat ∧ (6#8).toNat < demo.pulses.length ∧
    (let h := fun (w : Word) => (w.extractLsb' 0 16).toNat
     let a := fun (w : Word) => (w.extractLsb' 16 16).toNat
     h 0 + a 0 = 0 ∧ 65535 < h 0x8000_8000 + a 0x8000_8000 ∧ 0 < h 1 + a 1 ∧ h 0x8000_7FFF + a 0x8000_7FFF ≤ 65535 ∧
     h 4 < h 0x0001_0004 + a 0x0001_0004 ∧ h 4 < a 0x0005_0000 ∧ h 0x0001_0003 + a 0x0001_0003 ≤ h 4 ∧
     a 0x0004_0000 ≤ h 4 ∧ (4#32 : Word).extractLsb' 0 16 ≠ 0 ∧ (4#32 : Word).extractLsb' 16 16 = 0 ∧
     (0x0001_0004#32 : Word).extractLsb' 16 16 ≠ 0) := by decide

theorem witness_PulseControl :
    demo.pulses.length ≤ (7#8).toNat ∧ (∃ x, demo.pulses[(6#8).toNat]? = some x ∧ x.state = .deleted) ∧
    demo.pulses[(0#8).toNat]? = some oneshotPulse ∧ oneshotPulse.state ≠ .deleted ∧ oneshotPulse.state = .running ∧
    isPattern oneshotPulse = true ∧
    demo.pulses[(3#8).toNat]? = some highPulse ∧ highPulse.state = .running ∧ isPattern highPulse = false ∧
    highPulse.mode ≠ .idle ∧ demo.pulses[(4#8).toNat]? = some idlePulse ∧ idlePulse.mode = .idle ∧
    demo.pulses[(5#8).toNat]? = some donePulse ∧ donePulse.state = .completed ∧ donePulse.state ≠ .running ∧
    demo.pulses[(2#8).toNat]? = some continuousPulse ∧ isPattern continuousPulse = true ∧
    continuousPulse.state = .running :=
  ⟨by decide, ⟨_, rfl, rfl⟩, rfl, by decide, rfl, rfl, rfl, rfl, rfl, by decide, rfl, rfl, rfl, rfl, by decide, rfl, rfl, rfl⟩

theorem witness_SyncAllGenerators :
    demo.pulses[(3#8).toNat]? = some highPulse ∧ highPulse.state ≠ .deleted ∧ isPattern highPulse = false ∧
    demo.pulses[(5#8).toNat]? = some donePulse ∧ donePulse.state ≠ .deleted ∧ donePulse.state ≠ .running ∧
    demo.pulses[(0#8).toNat]? = some oneshotPulse ∧ oneshotPulse.state ≠ .deleted ∧ isPattern oneshotPulse = true ∧
    oneshotPulse.state = .running := by decide

theorem witness_PulsePass :
    (donePulse.state ≠ .running ∨ isPattern donePulse = false) ∧ (highPulse.state ≠ .running ∨ isPattern highPulse = false) ∧
    oneshotPulse.state = .running ∧ oneshotPulse.phase.toNat < 65535 ∧ oneshotPulse.mode = .oneshot ∧
    repeatPulse.state = .running ∧ repeatPulse.phase.toNat < 65535 ∧ repeatPulse.mode = .repeating ∧
    continuousPulse.state = .running ∧ continuousPulse.mode = .continuous ∧
    ({ continuousPulse with phase := 65534 } : Pulse).phase.toNat < 65535 := by decide

theorem witness_PatternLaws :
    (∀ x ∈ [oneshotPulse, repeatPulse, continuousPulse],
      x.state = .running ∧ isPattern x = true ∧ x.phase = 0 ∧ x.rem = x.cycles ∧
        x.stage = if 0 < x.head.toNat then .head else if 0 < x.head.toNat + x.act.toNat then .active else .tail) ∧
    PulseShape oneshotPulse ∧ PulseShape repeatPulse ∧ PulseShape continuousPulse ∧
    oneshotPulse.mode = .oneshot ∧ 2 < oneshotPulse.total.toNat ∧ oneshotPulse.total.toNat ≤ 3 ∧
    repeatPulse.mode = .repeating ∧ 5 < repeatPulse.cycles.toNat * repeatPulse.total.toNat ∧
    repeatPulse.cycles.toNat * repeatPulse.total.toNat ≤ 6 ∧ continuousPulse.mode = .continuous ∧
    (pulseRun 2 oneshotPulse).1.state = .running ∧ (pulseRun 1 oneshotPulse).1.state = .running := by
  refine ⟨by decide, ?_, ?_, ?_, by decide, by decide, by decide, by decide, by decide, by decide, by decide, by decide,
    by decide⟩ <;> (unfold PulseShape; decide)

theorem witness_PhaseLockHolds :
    PulseInv repeatPulse ∧ PulseInv continuousPulse ∧ repeatPulse.total = continuousPulse.total ∧
    repeatPulse.phase = continuousPulse.phase ∧ isPattern repeatPulse = true ∧ isPattern continuousPulse = true ∧
    (pulseRun 5 repeatPulse).1.state = .running ∧ (pulseRun 5 continuousPulse).1.state = .running :=
  ⟨demo_pulses _ (by simp [demo]), demo_pulses _ (by simp [demo]), by decide, by decide, by decide, by decide, by decide,
    by decide⟩

end Sys2Proof.Tests
end

/-! ## The scope of the block (00_scope.md): reset meets the invariant, errors have no partial effect -/

namespace Sys2Proof.Machine

/-! ### The reset state (R11, R53)

Each object of a bank is at its reset value, and each reset value meets the invariant of its kind: an object that is
deleted, disabled or uninitialised has no counter or cursor to bound. -/

/-- Reset keeps the parameters: a bank's count is the length it was made with. -/
@[simp] theorem State.resetOf_params (c : Params) : (State.resetOf c).params = c := by
  simp [State.params, State.resetOf]

theorem queueInv_reset (size : Nat) : QueueInv size Queue.reset :=
  ⟨fun _ => ⟨rfl, rfl, rfl⟩, fun initialised => absurd rfl initialised⟩

theorem portInv_reset (lineMax : Nat) : PortInv lineMax Port.reset :=
  ⟨by decide, nofun, fun _ => rfl, rfl, nofun, nofun⟩

theorem timerInv_reset : TimerInv Timer.reset := .inl rfl

theorem switchInv_reset (nAdc : Nat) : SwitchInv nAdc Switch.reset := nofun

theorem channelInv_reset : ChannelInv Channel.reset := nofun

theorem pulseInv_reset : PulseInv Pulse.reset :=
  ⟨fun ⟨live, _⟩ => absurd rfl live, nofun, fun _ => rfl⟩

theorem State.resetOf_inv {c : Params} (h : c.wf = true) : (State.resetOf c).Inv where
  params := by rwa [State.resetOf_params]
  queues := List.forall_mem_replicate.2 (.inr (queueInv_reset _))
  ports := List.forall_mem_replicate.2 (.inr (portInv_reset _))
  timers := List.forall_mem_replicate.2 (.inr timerInv_reset)
  switches := List.forall_mem_replicate.2 (.inr (switchInv_reset _))
  channels := List.forall_mem_replicate.2 (.inr channelInv_reset)
  pulses := List.forall_mem_replicate.2 (.inr pulseInv_reset)
  qmem := ⟨State.resetOf_qmem_wf c, nofun⟩
  clock := (by decide : (0 : Word).toNat < 86400000)
  active := trivial

/-- Settles O15: the reset state of every well-formed choice of the parameters, the reference one among them. -/
theorem resetMeetsInvariant : Obligations.ResetMeetsInvariant :=
  ⟨fun _ => State.resetOf_inv, State.resetOf_inv (by decide)⟩

/-! ### How a command's step ends (R19, R34, R527)

Every error a command meets is met before it writes anything, so each step is of one of three kinds. The rules below say
so for each operation the commands are made of; `exec_ending` says it for every command. -/

/-- How the step of a command that was started in `s` ends in `t`. -/
inductive Ending (s : State) : State → Prop
  /-- an error was raised on the state before the command -/
  | raised (c : ResultCode) : Ending s (raise c s)
  /-- the command has a result: Ok, or the code of a put on a full or a get on an empty queue (R203, R206) -/
  | completed {t : State} (result : t.res = .ok ∨ t.res = .queueEmpty ∨ t.res = .queueFull) : Ending s t
  /-- the command has further sub-steps to take -/
  | executing {t : State} (unfinished : t.active ≠ none) : Ending s t

namespace Ending

variable {s t u : State}

theorem finishOk : Ending s (finish .ok t) := .completed (.inl rfl)

protected theorem finishField (v : Option Word) : Ending s (finishField v s) := by
  cases v with
  | none => exact .raised _
  | some _ => exact finishOk

protected theorem ite {c : Prop} [Decidable c] (ht : Ending s t) (hu : Ending s u) :
    Ending s (if c then t else u) := by
  split
  · exact ht
  · exact hu

/-- The usual form of a check: the error is raised at once, and the command goes on only without it. -/
theorem unlessRaised {c : Prop} [Decidable c] {code : ResultCode} (h : Ending s t) :
    Ending s (if c then raise code s else t) := .ite (.raised _) h

/-! #### Bank checks: an object that does not exist is refused before anything else is done -/

protected theorem onQueueSlot {q : Nat} {k : Queue → State} (h : ∀ x, s.queues[q]? = some x → Ending s (k x)) :
    Ending s (onQueueSlot q s k) := by
  cases hx : s.queues[q]? with
  | none => rw [onQueueSlot_of_none hx]; exact .raised _
  | some x => rw [onQueueSlot_of_some hx]; exact h x hx

protected theorem onQueue {q : Nat} {k : Queue → State} (h : ∀ x, s.queues[q]? = some x → Ending s (k x)) :
    Ending s (onQueue q s k) :=
  .onQueueSlot fun x hx => unlessRaised (h x hx)

protected theorem onPort {p : Nat} {k : Port → State} (h : ∀ x, Ending s (k x)) : Ending s (onPort p s k) := by
  cases hx : s.ports[p]? with
  | none => rw [onPort_of_none hx]; exact .raised _
  | some x => rw [onPort_of_some hx]; exact h x

protected theorem onTimer {i : Nat} {k : Timer → State} (h : ∀ x, Ending s (k x)) : Ending s (onTimer i s k) := by
  cases hx : s.timers[i]? with
  | none => rw [onTimer_of_none hx]; exact .raised _
  | some x => rw [onTimer_of_some hx]; exact h x

protected theorem onLiveTimer {i : Nat} {k : Timer → State} (h : ∀ x, Ending s (k x)) :
    Ending s (onLiveTimer i s k) :=
  .onTimer fun x => unlessRaised (h x)

protected theorem onSwitch {i : Nat} {k : Switch → State} (h : ∀ x, Ending s (k x)) : Ending s (onSwitch i s k) := by
  cases hx : s.switches[i]? with
  | none => rw [onSwitch_of_none hx]; exact .raised _
  | some x => rw [onSwitch_of_some hx]; exact h x

protected theorem onLiveSwitch {i : Nat} {k : Switch → State} (h : ∀ x, Ending s (k x)) :
    Ending s (onLiveSwitch i s k) :=
  .onSwitch fun x => .ite (h x) (.raised _)

protected theorem onChannel {i : Nat} {k : Channel → State} (h : ∀ x, Ending s (k x)) :
    Ending s (onChannel i s k) := by
  cases hx : s.channels[i]? with
  | none => rw [onChannel_of_none hx]; exact .raised _
  | some x => rw [onChannel_of_some hx]; exact h x

protected theorem onLiveChannel {i : Nat} {k : Channel → State} (h : ∀ x, Ending s (k x)) :
    Ending s (onLiveChannel i s k) :=
  .onChannel fun x => .ite (h x) (.raised _)

protected theorem onPulse {g : Nat} {k : Pulse → State} (h : ∀ x, Ending s (k x)) : Ending s (onPulse g s k) := by
  cases hx : s.pulses[g]? with
  | none => rw [onPulse_of_none hx]; exact .raised _
  | some x => rw [onPulse_of_some hx]; exact h x

protected theorem onLivePulse {g : Nat} {k : Pulse → State} (h : ∀ x, Ending s (k x)) :
    Ending s (onLivePulse g s k) :=
  .onPulse fun x => unlessRaised (h x)

/-! #### Queue accesses and waits -/

/-- QueueFull writes lerr (R204), so it is a result and not a raised error. -/
protected theorem hostPut {q : Nat} {x : Queue} (h : s.queues[q]? = some x) (b : Byte) : Ending s (hostPut q b s) := by
  rw [hostPut_eq h]
  exact .ite (.completed (.inr (.inr rfl))) (.completed (.inl rfl))

/-- QueueEmpty writes lerr (R204), so it is a result and not a raised error. -/
protected theorem hostGet {q : Nat} {x : Queue} (h : s.queues[q]? = some x) : Ending s (hostGet q s) := by
  rw [hostGet_eq h]
  exact .ite (.completed (.inr (.inl rfl))) (.completed (.inl rfl))

protected theorem pollWriteSync (p b : Byte) : Ending s (pollWriteSync p b s) := by
  rw [pollWriteSync_eq]
  exact .ite (.completed (.inl rfl)) (.executing nofun)

protected theorem pollReadSync {p : Byte} {x : Queue} (h : s.queues[rxQueue p.toNat]? = some x) :
    Ending s (pollReadSync p s) := by
  rw [pollReadSync_eq h]
  exact .ite (.executing nofun) (.hostGet h)

/-- R572, R19: a raised error is the only end with GenericError or InvalidArgument. -/
theorem eq_raise (h : Ending s t) (ended : t.active = none)
    (error : t.res = .genericError ∨ t.res = .invalidArgument) : t = raise t.res s := by
  cases h with
  | raised c => rfl
  | completed result => rcases error with e | e <;> simp [e] at result
  | executing unfinished => exact absurd ended unfinished

end Ending

/-- Every command answers a next state, and it gets there in one of the three ways. -/
theorem exec_ending (i : Instr) (s : State) : ∃ t, exec i s = .next t ∧ Ending s t := by
  cases i with
  | nop => exact ⟨_, rfl, .finishOk⟩
  | dspConsume => exact ⟨_, rfl, .finishOk⟩
  | dspPass => exact ⟨_, rfl, .executing nofun⟩
  | dspRun => exact ⟨_, rfl, .executing nofun⟩
  | sysRdf sel => exact ⟨_, rfl, .finishField _⟩
  | clkGet => exact ⟨_, rfl, .finishOk⟩
  | clkSet => exact ⟨_, rfl, .unlessRaised .finishOk⟩
  | qInit q => exact ⟨_, rfl, .onQueueSlot fun _ _ => .unlessRaised (.unlessRaised .finishOk)⟩
  | qPut q b => exact ⟨_, rfl, .onQueue fun _ hx => .hostPut hx b⟩
  | qGet q => exact ⟨_, rfl, .onQueue fun _ hx => .hostGet hx⟩
  | qSpace q => exact ⟨_, rfl, .onQueue fun _ _ => .finishOk⟩
  | qReset q => exact ⟨_, rfl, .onQueue fun _ _ => .finishOk⟩
  | qRdf q sel => exact ⟨_, rfl, .onQueueSlot fun _ _ => .finishField _⟩
  | qmRd => exact ⟨_, rfl, .unlessRaised .finishOk⟩
  | qmWr b => exact ⟨_, rfl, .unlessRaised .finishOk⟩
  | serAttachByte p cbw => exact ⟨_, rfl, .onPort fun _ => .finishOk⟩
  | serAttachLine p cbw => exact ⟨_, rfl, .onPort fun _ => .unlessRaised .finishOk⟩
  | serDetachByte p => exact ⟨_, rfl, .onPort fun _ => .finishOk⟩
  | serDetachLine p => exact ⟨_, rfl, .onPort fun _ => .finishOk⟩
  | serWrite p b => exact ⟨_, rfl, .onPort fun _ => .onQueue fun _ hx => .hostPut hx b⟩
  | serWriteSync p b => exact ⟨_, rfl, .onPort fun _ => .pollWriteSync p b⟩
  | serRead p => exact ⟨_, rfl, .onPort fun _ => .onQueue fun _ hx => .hostGet hx⟩
  | serReadSync p => exact ⟨_, rfl, .onPort fun _ => .onQueue fun _ hx => .pollReadSync hx⟩
  | serRdf p sel => exact ⟨_, rfl, .onPort fun _ => .finishField _⟩
  | serAdvance => exact ⟨_, rfl, .finishOk⟩
  | tmrCreateInterval j period => exact ⟨_, rfl, .onTimer fun _ => .unlessRaised .finishOk⟩
  | tmrCreateTimeout j period => exact ⟨_, rfl, .onTimer fun _ => .unlessRaised .finishOk⟩
  | tmrStart j => exact ⟨_, rfl, .onLiveTimer fun _ => .finishOk⟩
  | tmrStop j => exact ⟨_, rfl, .onLiveTimer fun _ => .finishOk⟩
  | tmrPause j => exact ⟨_, rfl, .onLiveTimer fun _ => .ite .finishOk (.raised _)⟩
  | tmrResume j => exact ⟨_, rfl, .onLiveTimer fun _ => .ite .finishOk (.raised _)⟩
  | tmrDelete j => exact ⟨_, rfl, .onTimer fun _ => .finishOk⟩
  | tmrSetPeriod j period => exact ⟨_, rfl, .onLiveTimer fun _ => .unlessRaised .finishOk⟩
  | tmrSetMode j mode => exact ⟨_, rfl, .onLiveTimer fun _ => .finishOk⟩
  | tmrSetCallback j cbw => exact ⟨_, rfl, .onLiveTimer fun _ => .finishOk⟩
  | tmrRdf j sel => exact ⟨_, rfl, .onTimer fun _ => .finishField _⟩
  | tmrAdvance => exact ⟨_, rfl, .finishOk⟩
  | swCreateDigital j cbw => exact ⟨_, rfl, .onSwitch fun _ => .unlessRaised .finishOk⟩
  | swCreateAnalog j cbw => exact ⟨_, rfl, .onSwitch fun _ => .unlessRaised (.unlessRaised .finishOk)⟩
  | swDelete j => exact ⟨_, rfl, .onSwitch fun _ => .finishOk⟩
  | swSetCallback j cbw => exact ⟨_, rfl, .onLiveSwitch fun _ => .finishOk⟩
  | swRdf j sel => exact ⟨_, rfl, .onSwitch fun _ => .finishField _⟩
  | swAdvance => exact ⟨_, rfl, .finishOk⟩
  | adcCreate j => exact ⟨_, rfl, .onChannel fun _ => .unlessRaised .finishOk⟩
  | adcDelete j => exact ⟨_, rfl, .onChannel fun _ => .finishOk⟩
  | adcSetCallbacks j => exact ⟨_, rfl, .onLiveChannel fun _ => .finishOk⟩
  | adcRdf j sel => exact ⟨_, rfl, .onChannel fun _ => .finishField _⟩
  | adcAdvance => exact ⟨_, rfl, .finishOk⟩
  | pdsCreateLow g => exact ⟨_, rfl, .onPulse fun _ => .finishOk⟩
  | pdsCreateHigh g => exact ⟨_, rfl, .onPulse fun _ => .finishOk⟩
  | pdsCreateIdle g => exact ⟨_, rfl, .onPulse fun _ => .finishOk⟩
  | pdsCreateOneshot g => exact ⟨_, rfl, .onPulse fun _ => .unlessRaised .finishOk⟩
  | pdsCreateRepeat g => exact ⟨_, rfl, .onPulse fun _ => .unlessRaised (.unlessRaised .finishOk)⟩
  | pdsCreateContinuous g => exact ⟨_, rfl, .onPulse fun _ => .unlessRaised .finishOk⟩
  | pdsCreatePwm g => exact ⟨_, rfl, .onPulse fun _ => .unlessRaised .finishOk⟩
  | pdsSync dst src =>
    exact ⟨_, rfl, .onLivePulse fun _ => .onLivePulse fun _ => .ite .finishOk (.raised _)⟩
  | pdsSyncAll g => exact ⟨_, rfl, .onLivePulse fun _ => .ite .finishOk (.raised _)⟩
  | pdsRestart g => exact ⟨_, rfl, .onLivePulse fun _ => .finishOk⟩
  | pdsStop g => exact ⟨_, rfl, .onLivePulse fun _ => .finishOk⟩
  | pdsDelete g => exact ⟨_, rfl, .onPulse fun _ => .finishOk⟩
  | pdsSetInvert g inv => exact ⟨_, rfl, .onLivePulse fun _ => .finishOk⟩
  | pdsRdf g sel => exact ⟨_, rfl, .onPulse fun _ => .finishField _⟩
  | pdsAdvance => exact ⟨_, rfl, .finishOk⟩

/-- Settles O20: of the three ends of a command only a raised error has one of the two codes, and a raised error is
applied to the state before the command. -/
theorem errorsHaveNoPartialEffect : Obligations.ErrorsHaveNoPartialEffect := by
  intro i s t hexec ended error
  obtain ⟨u, hu, ending⟩ := exec_ending i s
  obtain rfl : u = t := by simpa [hu] using hexec
  exact ending.eq_raise ended error

end Sys2Proof.Machine

/-! ## The state of the block (10_state.md): its invariant, the frame and the operands of every command, the rounds -/

namespace Sys2Proof.Machine

/-! ### Ring queues (R41, R102) -/

theorem toNat_ne_zero_iff {n : Nat} {v : BitVec n} : v.toNat ≠ 0 ↔ v ≠ 0 := by
  simp [BitVec.toNat_ne]

theorem toNat_pos {n : Nat} {v : BitVec n} (h : v ≠ 0) : 0 < v.toNat := Nat.pos_of_ne_zero (toNat_ne_zero_iff.2 h)

theorem toNat_nextSlot (k : Half) {cap : Half} (initialised : cap ≠ 0) :
    (nextSlot k cap).toNat = (k.toNat + 1) % cap.toNat := by
  have pos := toNat_pos initialised
  have below := Nat.mod_lt (k.toNat + 1) pos
  rw [nextSlot, BitVec.toNat_ofNat, Nat.mod_eq_of_lt (by omega)]

theorem QueueInv.cap_ne_zero {size : Nat} {x : Queue} (h : QueueInv size x) (held : x.count ≠ 0) : x.cap ≠ 0 :=
  fun uninitialised => held (h.1 uninitialised).1

theorem queueInv_init {size : Nat} {base len : Half} (nonzero : len ≠ 0) (fits : base.toNat + len.toNat ≤ size)
    (lerr : ResultCode) : QueueInv size { cap := len, count := 0, put := 0, get := 0, lerr := lerr, base := base } := by
  have pos := toNat_pos nonzero
  exact ⟨fun zero => absurd zero nonzero, fun _ => ⟨by simp, by simpa using pos, by simpa using pos, by simp, fits⟩⟩

theorem QueueInv.withLerr {size : Nat} {x : Queue} (h : QueueInv size x) (c : ResultCode) :
    QueueInv size { x with lerr := c } := h

theorem QueueInv.afterPut {size : Nat} {x : Queue} (h : QueueInv size x) (initialised : x.cap ≠ 0)
    (space : x.count ≠ x.cap) :
    QueueInv size { x with put := nextSlot x.put x.cap, count := x.count + 1 } := by
  obtain ⟨hcount, hput, hget, hsum, hfits⟩ := h.2 initialised
  have pos : 0 < x.cap.toNat := by omega
  have room : x.count.toNat < x.cap.toNat := Nat.lt_of_le_of_ne hcount (mt BitVec.eq_of_toNat_eq space)
  have counted : (x.count + 1).toNat = x.count.toNat + 1 := by
    have := x.cap.isLt
    simp [BitVec.toNat_add]; omega
  refine ⟨fun zero => absurd zero initialised, fun _ => ⟨?_, ?_, hget, ?_, hfits⟩⟩
  · simp only [counted]; omega
  · simpa [toNat_nextSlot _ initialised] using Nat.mod_lt _ pos
  · simp only [counted, toNat_nextSlot _ initialised, hsum, Nat.mod_add_mod, Nat.add_assoc]

theorem QueueInv.afterGet {size : Nat} {x : Queue} (h : QueueInv size x) (held : x.count ≠ 0) :
    QueueInv size { x with get := nextSlot x.get x.cap, count := x.count - 1 } := by
  have initialised := h.cap_ne_zero held
  obtain ⟨hcount, hput, hget, hsum, hfits⟩ := h.2 initialised
  have pos : 0 < x.cap.toNat := by omega
  have nonempty : 0 < x.count.toNat := toNat_pos held
  have counted : (x.count - 1).toNat = x.count.toNat - 1 := by
    have := x.count.isLt
    simp [BitVec.toNat_sub]; omega
  refine ⟨fun zero => absurd zero initialised, fun _ => ⟨?_, hput, ?_, ?_, hfits⟩⟩
  · simp only [counted]; omega
  · simpa [toNat_nextSlot _ initialised] using Nat.mod_lt _ pos
  · simp only [counted, toNat_nextSlot _ initialised, hsum, Nat.mod_add_mod]
    congr 1; omega

theorem QueueInv.emptied {size : Nat} {x : Queue} (h : QueueInv size x) (initialised : x.cap ≠ 0) :
    QueueInv size { x with count := 0, put := 0, get := 0, lerr := .ok } := by
  obtain ⟨-, -, -, -, hfits⟩ := h.2 initialised
  exact queueInv_init initialised hfits _

/-- The put slot of a queue lies in QMEM. -/
theorem QueueInv.slotAddr_put_lt {size : Nat} {x : Queue} (h : QueueInv size x) (initialised : x.cap ≠ 0) :
    slotAddr x x.put < size := by
  obtain ⟨-, hput, -, -, hfits⟩ := h.2 initialised
  unfold slotAddr; omega

/-! ### Serial ports (R43, R281) -/

/-- The line receiver that returns to idle holds nothing, so only its size and its buffer matter. -/
theorem portInv_lineIdle {lineMax : Nat} {x : Port} (size : x.le = true → x.lsize ≠ 0 ∧ x.lsize.toNat ≤ lineMax)
    (wf : Table.wf x.lb = true) (bounded : ∀ c ∈ x.lb, c.1 < lineMax) : PortInv lineMax (lineIdle x) := by
  refine ⟨by simp [lineIdle], fun attached => ?_, fun _ => rfl, wf, bounded, by simp [lineIdle]⟩
  obtain ⟨nonzero, fits⟩ := size attached
  exact ⟨nonzero, fits, by simpa [lineIdle] using toNat_pos nonzero⟩

theorem PortInv.withByteReceiver {lineMax : Nat} {x : Port} (h : PortInv lineMax x) (be : Bool) (bcb : Half) :
    PortInv lineMax { x with be := be, bcb := bcb } := h

theorem PortInv.attachLine {lineMax : Nat} {x : Port} (h : PortInv lineMax x) {size : Half}
    (valid : ¬ (size = 0 ∨ lineMax < size.toNat)) (lcb : Half) (term : Byte) :
    PortInv lineMax (lineIdle { x with le := true, lcb := lcb, lsize := size, term := term }) := by
  obtain ⟨-, -, -, wf, bounded, -⟩ := h
  obtain ⟨nonzero, fits⟩ := not_or.1 valid
  exact portInv_lineIdle (fun _ => ⟨nonzero, Nat.le_of_not_lt fits⟩) wf bounded

theorem PortInv.detachLine {lineMax : Nat} {x : Port} (h : PortInv lineMax x) :
    PortInv lineMax (lineIdle { x with le := false }) := by
  obtain ⟨-, -, -, wf, bounded, -⟩ := h
  exact portInv_lineIdle nofun wf bounded

theorem PortInv.lineFeed {lineMax : Nat} {x : Port} (h : PortInv lineMax x) (attached : x.le = true) (p : Nat)
    (b : Byte) : PortInv lineMax (lineFeed p x b).1 := by
  obtain ⟨-, size, -, wf, bounded, written⟩ := h
  obtain ⟨nonzero, fits, room⟩ := size attached
  unfold Machine.lineFeed
  split
  · exact portInv_lineIdle (fun _ => ⟨nonzero, fits⟩) wf bounded
  · have wf' := Table.insert_wf x.llen.toNat b wf
    have bounded' : ∀ c ∈ Table.insert x.llen.toNat b x.lb, c.1 < lineMax := by
      intro c hc
      rcases Table.mem_insert hc with rfl | hc
      · exact lt_of_lt_of_le room fits
      · exact bounded c hc
    have counted : (x.llen + 1).toNat = x.llen.toNat + 1 := by
      have := x.lsize.isLt
      simp [BitVec.toNat_add]; omega
    dsimp only
    split
    · exact portInv_lineIdle (fun _ => ⟨nonzero, fits⟩) wf' bounded'
    · next notFull =>
      have nonempty : x.llen + 1 ≠ 0 := toNat_ne_zero_iff.1 (by omega)
      have room' : (x.llen + 1).toNat ≠ x.lsize.toNat := mt BitVec.eq_of_toNat_eq notFull
      refine ⟨iff_of_true rfl nonempty, fun _ => ⟨nonzero, fits, by dsimp only; omega⟩, fun detached => ?_, wf',
        bounded', ?_⟩
      · exact absurd attached (by simp [show x.le = false from detached])
      · intro k hk
        rw [Table.lookup_insert]
        split
        · simp
        · exact written k (by dsimp only at hk; omega)

theorem PortInv.receiveByte {lineMax : Nat} {x : Port} (h : PortInv lineMax x) (p : Nat) (b : Byte) :
    PortInv lineMax (receiveByte p x b).1 := by
  unfold Machine.receiveByte
  dsimp only
  split
  · next attached => exact h.lineFeed attached p b
  · exact h

/-! ### Timers (R44) -/

theorem TimerInv.reload_ne_zero {x : Timer} (h : TimerInv x) (live : x.state ≠ .deleted) : x.reload ≠ 0 :=
  h.resolve_left live

theorem TimerInv.timerStep {x : Timer} (h : TimerInv x) (i : Nat) : TimerInv (timerStep i x).1 := by
  unfold Machine.timerStep
  split
  · next running =>
    have period := h.reload_ne_zero (by simp [running])
    split
    · cases x.mode <;> exact .inr period
    · exact .inr period
  · exact h

/-! ### Counters (R380, R430) -/

/-- A counter of ticks stays below the interval it is compared with, and an interval of 0 does not count. -/
def CounterBelow (cnt limit : Half) : Prop := (limit = 0 → cnt = 0) ∧ (limit ≠ 0 → cnt.toNat < limit.toNat)

theorem CounterBelow.zero (limit : Half) : CounterBelow 0 limit := ⟨fun _ => rfl, toNat_pos⟩

/-- A counter that counts up without reaching its interval stays below it, so it never wraps. -/
theorem CounterBelow.succ {cnt limit : Half} (counts : limit ≠ 0) (notReached : ¬ limit ≤ cnt + 1) :
    CounterBelow (cnt + 1) limit :=
  ⟨fun zero => absurd zero counts, fun _ => BitVec.not_le.1 notReached⟩

/-! ### Switches (R45, R380) -/

section
variable {x : Switch}

theorem switchCounters_of_off (off : x.state = .off) :
    SwitchCounters x ↔ x.cnt.toNat < x.debounce.toNat ∧ x.rcnt = 0 := by simp [SwitchCounters, off]

theorem switchCounters_of_on (on : x.state = .on) :
    SwitchCounters x ↔ x.rcnt.toNat < x.debounce.toNat ∧ CounterBelow x.cnt x.hold := by
  simp [SwitchCounters, on, CounterBelow]

theorem switchCounters_of_hold (hold : x.state = .hold) :
    SwitchCounters x ↔ x.rcnt.toNat < x.debounce.toNat ∧ CounterBelow x.cnt x.rep := by
  simp [SwitchCounters, hold, CounterBelow]

theorem switchCounters_of_repeating (repeating : x.state = .repeating) :
    SwitchCounters x ↔ x.rcnt.toNat < x.debounce.toNat ∧ x.rep ≠ 0 ∧ CounterBelow x.cnt x.rep := by
  simp +contextual [SwitchCounters, repeating, CounterBelow]

/-- A switch that has just been released or created. -/
theorem switchCounters_released (off : x.state = .off) (cnt : x.cnt = 0) (rcnt : x.rcnt = 0)
    (debounced : x.debounce ≠ 0) : SwitchCounters x :=
  (switchCounters_of_off off).2 ⟨by simpa [cnt] using toNat_pos debounced, rcnt⟩

/-- The release window counts in any pressed state, and only it. -/
theorem SwitchCounters.releaseCount (h : SwitchCounters x) (pressed : x.state ≠ .off) {rcnt : Half}
    (below : rcnt.toNat < x.debounce.toNat) : SwitchCounters { x with rcnt := rcnt } := by
  cases hs : x.state with
  | off => exact absurd hs pressed
  | on => exact (switchCounters_of_on rfl).2 ⟨below, ((switchCounters_of_on hs).1 h).2⟩
  | hold => exact (switchCounters_of_hold rfl).2 ⟨below, ((switchCounters_of_hold hs).1 h).2⟩
  | repeating => exact (switchCounters_of_repeating rfl).2 ⟨below, ((switchCounters_of_repeating hs).1 h).2⟩

theorem SwitchCounters.sampleInactive (h : SwitchCounters x) (pressed : x.state ≠ .off) (debounced : x.debounce ≠ 0)
    (i : Nat) : SwitchCounters (switchStep i x false).1 := by
  have step : switchStep i x false =
      if x.debounce ≤ x.rcnt + 1 then ({ x with state := .off, cnt := 0, rcnt := 0 }, switchEvent i x .off)
      else ({ x with rcnt := x.rcnt + 1 }, []) := by
    cases hs : x.state <;> simp_all [switchStep]
  rw [step]
  split
  · exact switchCounters_released rfl rfl rfl debounced
  · next notReached => exact h.releaseCount pressed (BitVec.not_le.1 notReached)

theorem SwitchCounters.switchStep (h : SwitchCounters x) (debounced : x.debounce ≠ 0) (i : Nat) (a : Bool) :
    SwitchCounters (switchStep i x a).1 := by
  have window : (0 : Half).toNat < x.debounce.toNat := toNat_pos debounced
  cases hs : x.state with
  | off =>
    obtain ⟨-, hrcnt⟩ := (switchCounters_of_off hs).1 h
    cases a
    · simp only [Machine.switchStep, hs]
      exact switchCounters_released rfl rfl hrcnt debounced
    · simp only [Machine.switchStep, hs]
      split
      · exact (switchCounters_of_on rfl).2 ⟨window, .zero _⟩
      · next notReached => exact (switchCounters_of_off rfl).2 ⟨BitVec.not_le.1 notReached, hrcnt⟩
  | on =>
    obtain ⟨-, hcnt⟩ := (switchCounters_of_on hs).1 h
    cases a
    · exact h.sampleInactive (by simp [hs]) debounced i
    · simp only [Machine.switchStep, hs]
      split
      · exact (switchCounters_of_on rfl).2 ⟨window, hcnt⟩
      · next counts =>
        split
        · exact (switchCounters_of_hold rfl).2 ⟨window, .zero _⟩
        · next notReached => exact (switchCounters_of_on rfl).2 ⟨window, .succ counts notReached⟩
  | hold =>
    obtain ⟨-, hcnt⟩ := (switchCounters_of_hold hs).1 h
    cases a
    · exact h.sampleInactive (by simp [hs]) debounced i
    · simp only [Machine.switchStep, hs]
      split
      · exact (switchCounters_of_hold rfl).2 ⟨window, hcnt⟩
      · next counts =>
        split
        · exact (switchCounters_of_repeating rfl).2 ⟨window, counts, .zero _⟩
        · next notReached => exact (switchCounters_of_hold rfl).2 ⟨window, .succ counts notReached⟩
  | repeating =>
    obtain ⟨-, counts, -⟩ := (switchCounters_of_repeating hs).1 h
    cases a
    · exact h.sampleInactive (by simp [hs]) debounced i
    · simp only [Machine.switchStep, hs]
      split
      · exact (switchCounters_of_repeating rfl).2 ⟨window, counts, .zero _⟩
      · next notReached => exact (switchCounters_of_repeating rfl).2 ⟨window, counts, .succ counts notReached⟩

/-- The state machine of a switch writes neither what the switch samples nor its intervals. -/
theorem switchStep_frame (i : Nat) (x : Switch) (a : Bool) :
    (switchStep i x a).1 = { x with state := (switchStep i x a).1.state, cnt := (switchStep i x a).1.cnt
                                    rcnt := (switchStep i x a).1.rcnt } := by
  unfold Machine.switchStep
  split <;> (repeat' split) <;> rfl

theorem SwitchInv.switchStep {nAdc : Nat} (h : SwitchInv nAdc x) (i : Nat) (a : Bool) :
    SwitchInv nAdc (switchStep i x a).1 := by
  intro valid
  rw [switchStep_frame] at valid
  obtain ⟨debounced, source, counters⟩ := h valid
  refine ⟨?_, ?_, counters.switchStep debounced i a⟩
  · rw [switchStep_frame]; exact debounced
  · rw [switchStep_frame]; exact source

theorem SwitchInv.withData {nAdc : Nat} (h : SwitchInv nAdc x) (data : Sample) :
    SwitchInv nAdc { x with data := data } := h

theorem SwitchInv.withCallback {nAdc : Nat} (h : SwitchInv nAdc x) (cb : Half) : SwitchInv nAdc { x with cb := cb } := h

theorem SwitchInv.sampleAnalog {nAdc : Nat} (h : SwitchInv nAdc x) (s : State) :
    SwitchInv nAdc (sampleAnalog x s).2 := by
  unfold Machine.sampleAnalog
  split
  · split
    · exact h.withData _
    · exact h
  · exact h

end

/-! ### Analog channels (R46, R431) -/

/-- What ChannelInv says of the change-detection half: the reference and the latest output value lie between the
extremes. -/
def ExtremesHold (x : Channel) : Prop :=
  x.primed = true → x.min ≤ x.prev ∧ x.prev ≤ x.max ∧ x.min ≤ outputValue x x.raw ∧ outputValue x x.raw ≤ x.max

theorem channelInv_iff {x : Channel} :
    ChannelInv x ↔ (x.en = true → x.shift.toNat ≤ 9 ∧ ExtremesHold x ∧ CounterBelow x.scnt x.si) := Iff.rfl

/-- Change detection writes neither the configuration of the channel nor its sampling counter. -/
theorem changeStep_frame (i : Nat) (x : Channel) (raw : Sample) :
    (changeStep i x raw).1 = { x with
      primed := (changeStep i x raw).1.primed, raw := (changeStep i x raw).1.raw, min := (changeStep i x raw).1.min
      max := (changeStep i x raw).1.max, prev := (changeStep i x raw).1.prev, delta := (changeStep i x raw).1.delta
      evc := (changeStep i x raw).1.evc } := by
  unfold changeStep
  dsimp only
  repeat' split
  all_goals rfl

/-- The sampling cadence writes the sampling counter only. -/
theorem cadenceStep_frame (i : Nat) (x : Channel) (v : Sample) :
    (cadenceStep i x v).1 = { x with scnt := (cadenceStep i x v).1.scnt } := by
  unfold cadenceStep
  repeat' split
  all_goals rfl

theorem ExtremesHold.changeStep {x : Channel} (h : ExtremesHold x) (i : Nat) (raw : Sample) :
    ExtremesHold (changeStep i x raw).1 := by
  unfold Machine.changeStep
  dsimp only
  generalize (if x.evc = 0xFFFF#16 then x.evc else x.evc + 1) = evc
  split
  · next primed =>
    obtain ⟨hmin, hmax, -, -⟩ := h primed
    have low : (if outputValue x raw < x.min then outputValue x raw else x.min) ≤ x.prev ∧
        (if outputValue x raw < x.min then outputValue x raw else x.min) ≤ outputValue x raw := by
      simp only [BitVec.le_def, BitVec.lt_def] at *
      split <;> omega
    have high : x.prev ≤ (if x.max < outputValue x raw then outputValue x raw else x.max) ∧
        outputValue x raw ≤ (if x.max < outputValue x raw then outputValue x raw else x.max) := by
      simp only [BitVec.le_def, BitVec.lt_def] at *
      split <;> omega
    split
    · exact fun _ => ⟨low.2, high.2, low.2, high.2⟩
    · exact fun _ => ⟨low.1, high.1, low.2, high.2⟩
  · exact fun _ => ⟨BitVec.le_refl _, BitVec.le_refl _, BitVec.le_refl _, BitVec.le_refl _⟩

theorem CounterBelow.cadenceStep {x : Channel} (h : CounterBelow x.scnt x.si) (i : Nat) (v : Sample) :
    CounterBelow (cadenceStep i x v).1.scnt x.si := by
  unfold Machine.cadenceStep
  split
  · exact h
  · next counts =>
    split
    · exact .zero _
    · next notReached => exact .succ counts notReached

theorem ChannelInv.withCallbacks {x : Channel} (h : ChannelInv x) (ccb scb : Half) :
    ChannelInv { x with ccb := ccb, scb := scb } := h

theorem ChannelInv.channelStep {x : Channel} (h : ChannelInv x) (i : Nat) (raw : Sample) :
    ChannelInv (channelStep i x raw).1 := by
  have frame := changeStep_frame i x raw
  unfold Machine.channelStep
  dsimp only
  generalize hy : (changeStep i x raw).1 = y at frame
  rw [cadenceStep_frame]
  refine channelInv_iff.2 fun en => ?_
  obtain ⟨shift, extremes, counter⟩ := channelInv_iff.1 h (by rw [frame] at en; exact en)
  have counter' : CounterBelow y.scnt y.si := by rw [frame]; exact counter
  have shift' : y.shift.toNat ≤ 9 := by rw [frame]; exact shift
  have extremes' : ExtremesHold y := hy ▸ extremes.changeStep i raw
  exact ⟨shift', extremes', counter'.cadenceStep i _⟩

/-! ### Pulse generators (R47, R500) -/

section
variable {x : Pulse}

theorem stageOf_ne_noStage (x : Pulse) (p : Half) : stageOf x p ≠ .noStage := by
  unfold stageOf
  repeat' split
  all_goals nofun

/-- A drive writes `out` only, and no part of the invariant reads it. -/
theorem PulseInv.drive (h : PulseInv x) (prog : Bool) : PulseInv (drive x prog).1 := h

/-- A generator that is not running a pattern has no stage and only its shape matters. -/
theorem pulseInv_resting (shape : PulseShape x) (rests : x.state ≠ .running ∨ isPattern x = false)
    (noStage : x.stage = .noStage) : PulseInv x := by
  refine ⟨shape, fun ⟨running, pattern⟩ => ?_, fun _ => noStage⟩
  rcases rests with h | h
  · exact absurd running h
  · simp [pattern] at h

theorem pulseInv_running (shape : PulseShape x) (runs : PulseRuns x) (running : x.state = .running)
    (pattern : isPattern x = true) : PulseInv x :=
  ⟨shape, runs, fun rests => by simp [running, pattern] at rests⟩

/-- The shape is about the mode and the durations, and it is there for every live state. -/
theorem PulseShape.withPosition (h : PulseShape x) (live : x.state ≠ .deleted) (state : PulseState) (stage : Stage)
    (phase rem : Half) :
    PulseShape { x with state := state, stage := stage, phase := phase, rem := rem } :=
  fun ⟨_, pattern⟩ => h ⟨live, pattern⟩

theorem PulseInv.complete (h : PulseShape x) (live : x.state ≠ .deleted) : PulseInv (complete x).1 :=
  PulseInv.drive (pulseInv_resting (h.withPosition live _ _ x.phase x.rem) (.inl (by simp)) rfl) _

/-- The end of a pass leaves a generator in the stage of its phase counter. -/
theorem pulseStage_frame (x : Pulse) :
    ∃ out, (pulseStage x).1 = { x with stage := stageOf x x.phase, out := out } := by
  unfold pulseStage
  dsimp only
  split
  · next same => exact ⟨x.out, by rw [same]⟩
  · exact ⟨_, rfl⟩

theorem PulseInv.pulseStage (shape : PulseShape x) (running : x.state = .running) (pattern : isPattern x = true)
    (counts : x.phase.toNat < 65535) (cycles : x.mode = .repeating → x.rem ≠ 0 ∧ x.rem.toNat ≤ x.cycles.toNat) :
    PulseInv (pulseStage x).1 := by
  obtain ⟨out, frame⟩ := pulseStage_frame x
  rw [frame]
  exact pulseInv_running shape (fun _ => ⟨stageOf_ne_noStage _ _, counts, cycles⟩) running pattern

/-- A phase counter that has not reached its end after it counted up can count up again. -/
theorem phase_succ_lt {p total : Half} (notReached : ¬ total ≤ p + 1) : (p + 1).toNat < 65535 := by
  have := BitVec.lt_def.1 (BitVec.not_le.1 notReached)
  have := total.isLt
  omega

theorem PulseInv.pulseStep (h : PulseInv x) : PulseInv (pulseStep x).1 := by
  obtain ⟨shape, runs, rests⟩ := h
  unfold Machine.pulseStep
  split
  case isFalse => exact ⟨shape, runs, rests⟩
  next active =>
    obtain ⟨running, pattern⟩ := active
    obtain ⟨-, -, cycles⟩ := runs ⟨running, pattern⟩
    have live : x.state ≠ .deleted := by simp [running]
    obtain ⟨total, durations, -, -⟩ := shape ⟨live, pattern⟩
    have moved (phase rem : Half) : PulseShape { x with phase := phase, rem := rem } :=
      shape.withPosition live _ _ phase rem
    dsimp only
    split
    · next mode =>
      split
      · exact .complete (moved _ _) live
      · next notEnded =>
        refine .pulseStage (moved _ _) running pattern ?_ cycles
        have := x.total.isLt
        dsimp only at notEnded ⊢
        omega
    · next mode =>
      split
      · split
        · exact .complete (moved _ _) live
        · next notLast =>
          refine .pulseStage (moved _ _) running pattern (by simp) fun _ => ⟨notLast, ?_⟩
          obtain ⟨left, bounded⟩ := cycles mode
          have := toNat_pos left
          have := x.rem.isLt
          simp [BitVec.toNat_sub]
          omega
      · next notReached => exact .pulseStage (moved _ _) running pattern (phase_succ_lt notReached) cycles
    all_goals
      split
      · exact .pulseStage (moved _ _) running pattern (by simp) cycles
      · next notReached => exact .pulseStage (moved _ _) running pattern (phase_succ_lt notReached) cycles

/-! #### Creation and control -/

theorem pulseInv_staticPulse {mode : PulseMode} (static : mode = .low ∨ mode = .high ∨ mode = .idle) (out : Bool)
    (s : State) : PulseInv (staticPulse mode out s) := by
  have notPattern : isPattern (staticPulse mode out s) = false := by
    rcases static with rfl | rfl | rfl <;> rfl
  exact pulseInv_resting (fun ⟨_, pattern⟩ => by simp [notPattern] at pattern) (.inr notPattern) rfl

/-- A pattern generator is created within its cycle and with valid durations (R457..R460). -/
theorem pulseInv_patternPulse {mode : PulseMode} {h a t c p : Half} (total : t ≠ 0)
    (durations : h.toNat + a.toNat ≤ t.toNat) (cycles : mode = .repeating → c ≠ 0)
    (oneshot : mode = .oneshot → t.toNat = h.toNat + a.toNat) (phase : p.toNat < t.toNat)
    (pattern : mode = .oneshot ∨ mode = .repeating ∨ mode = .continuous) (out : Bool) (s : State) :
    PulseInv (patternPulse mode h a t c p out s) := by
  refine pulseInv_running (fun _ => ⟨total, durations, cycles, oneshot⟩)
    (fun _ => ⟨stageOf_ne_noStage _ _, ?_, fun repeats => ⟨cycles repeats, le_rfl⟩⟩) rfl ?_
  · have := t.isLt
    simp only [patternPulse]
    omega
  · rcases pattern with rfl | rfl | rfl <;> rfl

theorem pwmOffset_lt (sh : Half) {t : Half} (total : t ≠ 0) : (pwmOffset sh t).toNat < t.toNat := by
  have below : (sh.toNat * t.toNat) >>> 16 < t.toNat := by
    rw [Nat.shiftRight_eq_div_pow, Nat.div_lt_iff_lt_mul (by decide), Nat.mul_comm]
    exact Nat.mul_lt_mul_of_pos_left sh.isLt (toNat_pos total)
  rw [pwmOffset, BitVec.toNat_ofNat, Nat.mod_eq_of_lt (by have := t.isLt; omega)]
  exact below

theorem canSync_iff : canSync x = true ↔ x.state = .running ∧ isPattern x = true := by
  simp [canSync, and_comm]

theorem PulseInv.syncCore {src : Pulse} (h : PulseInv x) (hsrc : PulseInv src) (dst : canSync x = true)
    (ref : canSync src = true) : PulseInv (syncCore x src).1 := by
  obtain ⟨shape, runs, -⟩ := h
  obtain ⟨-, srcRuns, -⟩ := hsrc
  obtain ⟨running, pattern⟩ := canSync_iff.1 dst
  obtain ⟨stage, counts, -⟩ := srcRuns (canSync_iff.1 ref)
  obtain ⟨-, -, cycles⟩ := runs ⟨running, pattern⟩
  exact PulseInv.drive (pulseInv_running (shape.withPosition (by simp [running]) _ _ src.phase x.rem)
    (fun _ => ⟨stage, counts, cycles⟩) running pattern) _

theorem PulseInv.restart (h : PulseInv x) (live : x.state ≠ .deleted) : PulseInv (restart x).1 := by
  obtain ⟨shape, -, rests⟩ := h
  unfold Machine.restart
  dsimp only
  split
  · next pattern =>
    obtain ⟨-, -, cycles, -⟩ := shape ⟨live, pattern⟩
    exact PulseInv.drive (pulseInv_running (shape.withPosition live _ _ _ _)
      (fun _ => ⟨stageOf_ne_noStage _ _, by simp, fun repeats => ⟨cycles repeats, le_rfl⟩⟩) rfl pattern) _
  · next notPattern =>
    have static : isPattern x = false := by simpa using notPattern
    have resting : PulseInv { x with state := .running } :=
      pulseInv_resting (shape.withPosition live _ _ x.phase x.rem) (.inr static) (rests (.inr static))
    split
    · exact resting
    · exact resting.drive _

/-- A generator that is stopped or deleted keeps its durations and has no stage. -/
theorem PulseInv.halt (h : PulseInv x) {state : PulseState}
    (halted : state = .deleted ∨ state = .completed ∧ x.state ≠ .deleted) :
    PulseInv { x with state := state, stage := .noStage } := by
  refine pulseInv_resting (fun ⟨live, pattern⟩ => h.1 ⟨?_, pattern⟩) (.inl ?_) rfl
  · rcases halted with rfl | ⟨-, wasLive⟩
    · exact absurd rfl live
    · exact wasLive
  · rcases halted with rfl | ⟨rfl, -⟩ <;> nofun

theorem PulseInv.setInvert (h : PulseInv x) (inv : Bool) : PulseInv (setInvert x inv).1 := by
  have inverted : PulseInv { x with inv := inv } := h
  unfold Machine.setInvert
  dsimp only
  repeat' split
  all_goals exact inverted
end

/-! ### Bank checks: what holds of a refusal and of the body on an object holds of the checked command -/

section
variable {P : State → Prop} {s : State} {j : Nat}

theorem onQueueSlot_induct {k : Queue → State} (refused : P (raise .invalidArgument s))
    (body : ∀ x, s.queues[j]? = some x → P (k x)) : P (onQueueSlot j s k) := by
  cases hx : s.queues[j]? with
  | none => rwa [onQueueSlot_of_none hx]
  | some x => rw [onQueueSlot_of_some hx]; exact body x hx

theorem onQueue_induct {k : Queue → State} (refused : P (raise .invalidArgument s))
    (body : ∀ x, s.queues[j]? = some x → x.cap ≠ 0 → P (k x)) : P (onQueue j s k) :=
  onQueueSlot_induct refused fun x hx => by
    split
    · exact refused
    · next initialised => exact body x hx initialised

theorem onPort_induct {k : Port → State} (refused : P (raise .invalidArgument s))
    (body : ∀ x, s.ports[j]? = some x → P (k x)) : P (onPort j s k) := by
  cases hx : s.ports[j]? with
  | none => rwa [onPort_of_none hx]
  | some x => rw [onPort_of_some hx]; exact body x hx

theorem onTimer_induct {k : Timer → State} (refused : P (raise .invalidArgument s))
    (body : ∀ x, s.timers[j]? = some x → P (k x)) : P (onTimer j s k) := by
  cases hx : s.timers[j]? with
  | none => rwa [onTimer_of_none hx]
  | some x => rw [onTimer_of_some hx]; exact body x hx

theorem onLiveTimer_induct {k : Timer → State} (refused : P (raise .invalidArgument s))
    (body : ∀ x, s.timers[j]? = some x → x.state ≠ .deleted → P (k x)) : P (onLiveTimer j s k) :=
  onTimer_induct refused fun x hx => by
    split
    · exact refused
    · next live => exact body x hx live

theorem onSwitch_induct {k : Switch → State} (refused : P (raise .invalidArgument s))
    (body : ∀ x, s.switches[j]? = some x → P (k x)) : P (onSwitch j s k) := by
  cases hx : s.switches[j]? with
  | none => rwa [onSwitch_of_none hx]
  | some x => rw [onSwitch_of_some hx]; exact body x hx

theorem onLiveSwitch_induct {k : Switch → State} (refused : P (raise .invalidArgument s))
    (body : ∀ x, s.switches[j]? = some x → P (k x)) : P (onLiveSwitch j s k) :=
  onSwitch_induct refused fun x hx => by
    split
    · exact body x hx
    · exact refused

theorem onChannel_induct {k : Channel → State} (refused : P (raise .invalidArgument s))
    (body : ∀ x, s.channels[j]? = some x → P (k x)) : P (onChannel j s k) := by
  cases hx : s.channels[j]? with
  | none => rwa [onChannel_of_none hx]
  | some x => rw [onChannel_of_some hx]; exact body x hx

theorem onLiveChannel_induct {k : Channel → State} (refused : P (raise .invalidArgument s))
    (body : ∀ x, s.channels[j]? = some x → P (k x)) : P (onLiveChannel j s k) :=
  onChannel_induct refused fun x hx => by
    split
    · exact body x hx
    · exact refused

theorem onPulse_induct {k : Pulse → State} (refused : P (raise .invalidArgument s))
    (body : ∀ x, s.pulses[j]? = some x → P (k x)) : P (onPulse j s k) := by
  cases hx : s.pulses[j]? with
  | none => rwa [onPulse_of_none hx]
  | some x => rw [onPulse_of_some hx]; exact body x hx

theorem onLivePulse_induct {k : Pulse → State} (refused : P (raise .invalidArgument s))
    (body : ∀ x, s.pulses[j]? = some x → x.state ≠ .deleted → P (k x)) : P (onLivePulse j s k) :=
  onPulse_induct refused fun x hx => by
    split
    · exact refused
    · next live => exact body x hx live

/-- A check that only guards: `P` of both branches, the second under the negated check. -/
theorem ite_induct {c : Prop} [Decidable c] {t u : State} (ht : c → P t) (hu : ¬ c → P u) : P (if c then t else u) := by
  split
  · next h => exact ht h
  · next h => exact hu h

end

/-! ### The invariant without the executing command -/

/-- The invariant of everything but the position of an executing command. -/
abbrev State.IdleInv (s : State) : Prop := ({ s with active := none } : State).Inv

theorem State.Inv.idle {s : State} (h : s.Inv) : s.IdleInv :=
  { h with active := trivial }

theorem forall_mem_set {α : Type} {P : α → Prop} {l : List α} (h : ∀ x ∈ l, P x) {y : α} (hy : P y) (j : Nat) :
    ∀ x ∈ l.set j y, P x := by
  intro x hx
  rcases List.mem_or_eq_of_mem_set hx with hx | rfl
  · exact h x hx
  · exact hy

namespace State.IdleInv

variable {s : State}

theorem withActive (h : s.IdleInv) {a : Option Active} (ha : ActiveInv { s with active := a }) :
    ({ s with active := a } : State).Inv :=
  { h with active := ha }

theorem finish (h : s.IdleInv) (c : ResultCode) : (finish c s).Inv :=
  { h with active := trivial }

theorem raise (h : s.IdleInv) (c : ResultCode) : (raise c s).Inv := h.finish c

theorem finishData (h : s.IdleInv) (v : Word) : (finishData v s).Inv :=
  { h with active := trivial }

theorem finishField (h : s.IdleInv) (v : Option Word) : (finishField v s).Inv := by
  cases v with
  | none => exact h.raise _
  | some v => exact h.finishData v

theorem setQueue (h : s.IdleInv) {x : Queue} (hx : QueueInv s.qmemSize x) (q : Nat) : (setQueue q x s).IdleInv :=
  { h with params := by simpa [State.params] using h.params, queues := forall_mem_set h.queues hx q }

theorem setPort (h : s.IdleInv) {x : Port} (hx : PortInv s.lineMax x) (p : Nat) : (setPort p x s).IdleInv :=
  { h with params := by simpa [State.params] using h.params, ports := forall_mem_set h.ports hx p }

theorem setTimer (h : s.IdleInv) {x : Timer} (hx : TimerInv x) (i : Nat) : (setTimer i x s).IdleInv :=
  { h with params := by simpa [State.params] using h.params, timers := forall_mem_set h.timers hx i }

theorem setSwitch (h : s.IdleInv) {x : Switch} (hx : SwitchInv s.channels.length x) (i : Nat) :
    (setSwitch i x s).IdleInv :=
  { h with params := by simpa [State.params] using h.params, switches := forall_mem_set h.switches hx i }

theorem setChannel (h : s.IdleInv) {x : Channel} (hx : ChannelInv x) (i : Nat) : (setChannel i x s).IdleInv :=
  { h with params := by simpa [State.params] using h.params, channels := forall_mem_set h.channels hx i
           switches := by simpa using h.switches }

theorem setPulse (h : s.IdleInv) {x : Pulse} (hx : PulseInv x) (g : Nat) : (setPulse g x s).IdleInv :=
  { h with params := by simpa [State.params] using h.params, pulses := forall_mem_set h.pulses hx g }

theorem emit (h : s.IdleInv) (rs : List Record) : (emit rs s).IdleInv := { h with }

theorem setEnv (h : s.IdleInv) (e : Env) : (setEnv e s).IdleInv := { h with }

theorem memWrite (h : s.IdleInv) {a : Nat} (inside : a < s.qmemSize) (b : Byte) : (memWrite a b s).IdleInv := by
  obtain ⟨wf, bounded⟩ := h.qmem
  refine { h with qmem := ⟨memWrite_wf a b wf, fun c hc => ?_⟩ }
  rcases Table.mem_insert hc with rfl | hc
  · exact inside
  · exact bounded c hc

theorem memRead (h : s.IdleInv) (a : Nat) : (memRead a s).2.IdleInv := by
  rw [memRead_state]
  exact h.setEnv _

/-! #### Queue accesses -/

theorem queuePut (h : s.IdleInv) {q : Nat} {b : Byte} {t : State} {x : Queue} (hx : s.queues[q]? = some x)
    (initialised : x.cap ≠ 0) (ht : queuePut q b s = some t) : t.IdleInv := by
  obtain ⟨y, hy, space, rfl⟩ := queuePut_eq_some.1 ht
  obtain rfl : x = y := by simpa [hx] using hy
  have inv : QueueInv s.qmemSize x := h.queues x (List.mem_of_getElem? hx)
  exact (h.memWrite (inv.slotAddr_put_lt initialised) b).setQueue (inv.afterPut initialised space) q

theorem queueGet (h : s.IdleInv) {q : Nat} {b : Byte} {t : State} (ht : queueGet q s = some (b, t)) : t.IdleInv := by
  obtain ⟨x, hx, held, -, rfl⟩ := queueGet_eq_some.1 ht
  have inv : QueueInv s.qmemSize x := h.queues x (List.mem_of_getElem? hx)
  exact (h.memRead _).setQueue (by simpa using inv.afterGet held) q

theorem setLerr (h : s.IdleInv) (q : Nat) (c : ResultCode) : (setLerr q c s).IdleInv := by
  cases hx : s.queues[q]? with
  | none => simpa [Machine.setLerr, hx] using h
  | some x =>
    rw [setLerr_of_queue hx]
    exact h.setQueue ((h.queues x (List.mem_of_getElem? hx)).withLerr c) q

theorem hostPut (h : s.IdleInv) {q : Nat} {x : Queue} (hx : s.queues[q]? = some x) (initialised : x.cap ≠ 0)
    (b : Byte) : (hostPut q b s).Inv := by
  unfold Machine.hostPut
  split
  · next t ht => exact ((h.queuePut hx initialised ht).setLerr q _).finish _
  · exact (h.setLerr q _).finish _

theorem hostGet (h : s.IdleInv) (q : Nat) : (hostGet q s).Inv := by
  unfold Machine.hostGet
  split
  · next b t ht => exact ((h.queueGet ht).setLerr q _).finishData _
  · exact (h.setLerr q _).finish _

/-! #### Passes -/

theorem timerPass (h : s.IdleInv) : (timerPass s).IdleInv := by
  refine foldl_keeps (P := State.IdleInv) (fun t i ht => ?_) _ h
  unfold timerSlot
  split
  · next x hx => exact (ht.setTimer ((ht.timers x (List.mem_of_getElem? hx)).timerStep i) i).emit _
  · exact ht

theorem switchPass (h : s.IdleInv) : (switchPass s).IdleInv := by
  refine foldl_keeps (P := State.IdleInv) (fun t i ht => ?_) _ h
  unfold switchSlot
  split
  · exact ht
  · next x hx =>
    have inv : SwitchInv t.channels.length x := ht.switches x (List.mem_of_getElem? hx)
    refine ite_induct (fun _ => ?_) fun _ => ht
    split
    · have drawn : (drawPin x.src t).2.IdleInv := ht.setEnv _
      exact (drawn.setSwitch ((inv.withData _).switchStep i _) i).emit _
    · exact (ht.setSwitch ((inv.sampleAnalog t).switchStep i _) i).emit _

theorem analogPass (h : s.IdleInv) : (analogPass s).IdleInv := by
  refine foldl_keeps (P := State.IdleInv) (fun t i ht => ?_) _ h
  unfold channelSlot
  split
  · exact ht
  · next x hx =>
    have inv : ChannelInv x := ht.channels x (List.mem_of_getElem? hx)
    exact ite_induct (fun _ => ((ht.setEnv _).setChannel (inv.channelStep i _) i).emit _) fun _ => ht

theorem pulsePass (h : s.IdleInv) : (pulsePass s).IdleInv := by
  refine foldl_keeps (P := State.IdleInv) (fun t g ht => ?_) _ h
  unfold pulseSlot
  split
  · next x hx => exact (ht.setPulse (ht.pulses x (List.mem_of_getElem? hx)).pulseStep g).emit _
  · exact ht

theorem rxLoop (h : s.IdleInv) (p n : Nat) : (rxLoop p n s).IdleInv := by
  induction n generalizing s with
  | zero => exact h
  | succ n ih =>
    unfold Machine.rxLoop
    split
    · exact h
    · next b t ht =>
      have taken := h.queueGet ht
      split
      · exact taken
      · next x hx =>
        have inv : PortInv t.lineMax x := taken.ports x (List.mem_of_getElem? hx)
        exact ih ((taken.setPort (inv.receiveByte p b) p).emit _)

theorem txLoop (h : s.IdleInv) (p n : Nat) : (txLoop p n s).IdleInv := by
  induction n generalizing s with
  | zero => exact h
  | succ n ih =>
    unfold Machine.txLoop
    have drawn : (drawTx (BitVec.ofNat 8 p) s).2.IdleInv := h.setEnv _
    refine ite_induct (fun _ => ?_) fun _ => drawn
    split
    · exact drawn
    · next b t ht => exact ih ((drawn.queueGet ht).emit _)

theorem serialPass (h : s.IdleInv) : (serialPass s).IdleInv := by
  refine foldl_keeps (P := State.IdleInv) (fun t p ht => ?_) _ h
  have received : (serialRx p t).IdleInv := by
    unfold serialRx
    split
    · exact ite_induct (fun _ => ht) fun _ => ite_induct (fun _ => ht) fun _ => ht.rxLoop _ _
    · exact ht
  unfold serialPort serialTx
  split
  · exact ite_induct (fun _ => received) fun _ => received.txLoop _ _
  · exact received

theorem runPass (h : s.IdleInv) (p : Pass) : (runPass p s).IdleInv := by
  cases p with
  | timer => exact h.timerPass
  | switch => exact h.switchPass
  | analog => exact h.analogPass
  | pulse => exact h.pulsePass
  | serial => exact h.serialPass

end State.IdleInv

/-! ### The invariant over a command, a sub-step and a step -/

namespace State.IdleInv

variable {s : State}

theorem hostClock (h : s.IdleInv) {base ref : Word} (hbase : base.toNat < 86400000) :
    ({ s with clkBase := base, clkRef := ref } : State).IdleInv := { h with clock := hbase }

theorem finishQueue (h : s.IdleInv) {x : Queue} {q : Nat} {c : ResultCode} (hx : QueueInv s.qmemSize x) :
    (Machine.finish c (Machine.setQueue q x s)).Inv := (h.setQueue hx q).finish c

theorem finishPort (h : s.IdleInv) {x : Port} {p : Nat} {c : ResultCode} (hx : PortInv s.lineMax x) :
    (Machine.finish c (Machine.setPort p x s)).Inv := (h.setPort hx p).finish c

theorem finishTimer (h : s.IdleInv) {x : Timer} {i : Nat} {c : ResultCode} (hx : TimerInv x) :
    (Machine.finish c (Machine.setTimer i x s)).Inv := (h.setTimer hx i).finish c

theorem finishSwitch (h : s.IdleInv) {x : Switch} {i : Nat} {c : ResultCode} (hx : SwitchInv s.channels.length x) :
    (Machine.finish c (Machine.setSwitch i x s)).Inv := (h.setSwitch hx i).finish c

theorem finishChannel (h : s.IdleInv) {x : Channel} {i : Nat} {c : ResultCode} (hx : ChannelInv x) :
    (Machine.finish c (Machine.setChannel i x s)).Inv := (h.setChannel hx i).finish c

theorem finishPulse (h : s.IdleInv) {r : Pulse × List Record} (hr : PulseInv r.1) (g : Nat) : (finishPulse g r s).Inv :=
  ((h.setPulse hr g).emit _).finish _

theorem createPattern (h : s.IdleInv) {mode : PulseMode} {head act total cycles phase : Half} (nonzero : total ≠ 0)
    (durations : head.toNat + act.toNat ≤ total.toNat) (hcycles : mode = .repeating → cycles ≠ 0)
    (oneshot : mode = .oneshot → total.toNat = head.toNat + act.toNat) (hphase : phase.toNat < total.toNat)
    (pattern : mode = .oneshot ∨ mode = .repeating ∨ mode = .continuous) (g : Nat) (old : Pulse) :
    (createPattern g mode head act total cycles phase old s).Inv :=
  h.finishPulse (PulseInv.drive (pulseInv_patternPulse nonzero durations hcycles oneshot hphase pattern _ _) _) g

theorem syncAll (h : s.IdleInv) {ri : Nat} {r : Pulse} (hr : PulseInv r) (ref : canSync r = true) (l : List Nat) :
    (l.foldl (syncSlot ri r) s).IdleInv := by
  refine foldl_keeps (P := State.IdleInv) (fun t g ht => ?_) _ h
  unfold syncSlot
  split
  · next x hx =>
    exact ite_induct
      (fun dst => (ht.setPulse ((ht.pulses x (List.mem_of_getElem? hx)).syncCore hr dst.2 ref) g).emit _) fun _ => ht
  · exact ht

theorem pollWriteSync (h : s.IdleInv) {p : Byte} (inBank : p.toNat < s.ports.length) (b : Byte) :
    (pollWriteSync p b s).Inv := by
  have drawn : (drawTx p s).2.IdleInv := h.setEnv _
  exact ite_induct (fun _ => (drawn.emit _).finish _) fun _ => drawn.withActive inBank

theorem pollReadSync (h : s.IdleInv) {p : Byte} (inBank : p.toNat < s.ports.length)
    (initialised : ∀ x, s.queues[rxQueue p.toNat]? = some x → x.cap ≠ 0) : (pollReadSync p s).Inv := by
  unfold Machine.pollReadSync
  split
  · next b t ht => exact ((h.queueGet ht).setLerr _ _).finishData _
  · exact h.withActive ⟨inBank, initialised⟩

end State.IdleInv

theorem clkSet_lt {h m sec ms : Nat} (inRange : ¬ (23 < h ∨ 59 < m ∨ 59 < sec ∨ 999 < ms)) :
    (BitVec.ofNat 32 (((h * 60 + m) * 60 + sec) * 1000 + ms)).toNat < 86400000 := by
  rw [BitVec.toNat_ofNat]
  exact lt_of_le_of_lt (Nat.mod_le _ _) (by omega)

/-- Every command answers a next state, and from the invariant of everything but the executing command it reaches the
whole invariant. -/
theorem exec_inv (i : Instr) {s : State} (h : s.IdleInv) : ∃ t, exec i s = .next t ∧ t.Inv := by
  have queue {q : Nat} {x : Queue} (hx : s.queues[q]? = some x) : QueueInv s.qmemSize x :=
    h.queues x (List.mem_of_getElem? hx)
  have port {p : Nat} {x : Port} (hx : s.ports[p]? = some x) : PortInv s.lineMax x :=
    h.ports x (List.mem_of_getElem? hx)
  have timer {j : Nat} {x : Timer} (hx : s.timers[j]? = some x) : TimerInv x := h.timers x (List.mem_of_getElem? hx)
  have switch {j : Nat} {x : Switch} (hx : s.switches[j]? = some x) : SwitchInv s.channels.length x :=
    h.switches x (List.mem_of_getElem? hx)
  have channel {j : Nat} {x : Channel} (hx : s.channels[j]? = some x) : ChannelInv x :=
    h.channels x (List.mem_of_getElem? hx)
  have pulse {g : Nat} {x : Pulse} (hx : s.pulses[g]? = some x) : PulseInv x := h.pulses x (List.mem_of_getElem? hx)
  cases i with
  | nop => exact ⟨_, rfl, h.finish _⟩
  | dspConsume => exact ⟨_, rfl, State.IdleInv.finishData (s := { s with consumed := s.tick }) { h with } _⟩
  | dspPass => exact ⟨_, rfl, h.timerPass.withActive trivial⟩
  | dspRun => exact ⟨_, rfl, { h with active := le_refl _ }⟩
  | sysRdf sel => exact ⟨_, rfl, h.finishField _⟩
  | clkGet => exact ⟨_, rfl, h.finishData _⟩
  | clkSet =>
    exact ⟨_, rfl, ite_induct (fun _ => h.raise _) fun inRange => (h.hostClock (clkSet_lt inRange)).finish _⟩
  | qInit q =>
    exact ⟨_, rfl, onQueueSlot_induct (h.raise _) fun _ _ => ite_induct (fun _ => h.raise _) fun nonzero =>
      ite_induct (fun _ => h.raise _) fun fits =>
        h.finishQueue (queueInv_init nonzero (Nat.le_of_not_lt fits) _)⟩
  | qPut q b => exact ⟨_, rfl, onQueue_induct (h.raise _) fun x hx initialised => h.hostPut hx initialised b⟩
  | qGet q => exact ⟨_, rfl, onQueue_induct (h.raise _) fun _ _ _ => h.hostGet _⟩
  | qSpace q => exact ⟨_, rfl, onQueue_induct (h.raise _) fun _ _ _ => h.finishData _⟩
  | qReset q =>
    exact ⟨_, rfl, onQueue_induct (h.raise _) fun x hx initialised =>
      h.finishQueue ((queue hx).emptied initialised)⟩
  | qRdf q sel => exact ⟨_, rfl, onQueueSlot_induct (h.raise _) fun _ _ => h.finishField _⟩
  | qmRd => exact ⟨_, rfl, ite_induct (fun _ => h.raise _) fun _ => (h.memRead _).finishData _⟩
  | qmWr b =>
    exact ⟨_, rfl, ite_induct (fun _ => h.raise _) fun inside => (h.memWrite (Nat.lt_of_not_le inside) b).finish _⟩
  | serAttachByte p cbw =>
    exact ⟨_, rfl, onPort_induct (h.raise _) fun x hx => h.finishPort ((port hx).withByteReceiver true cbw)⟩
  | serAttachLine p cbw =>
    exact ⟨_, rfl, onPort_induct (h.raise _) fun x hx => ite_induct (fun _ => h.raise _) fun valid =>
      h.finishPort ((port hx).attachLine valid cbw _)⟩
  | serDetachByte p =>
    exact ⟨_, rfl, onPort_induct (h.raise _) fun x hx => h.finishPort ((port hx).withByteReceiver false x.bcb)⟩
  | serDetachLine p =>
    exact ⟨_, rfl, onPort_induct (h.raise _) fun x hx => h.finishPort (port hx).detachLine⟩
  | serWrite p b =>
    exact ⟨_, rfl, onPort_induct (h.raise _) fun _ _ => onQueue_induct (h.raise _) fun x hx initialised =>
      h.hostPut hx initialised b⟩
  | serWriteSync p b =>
    exact ⟨_, rfl, onPort_induct (h.raise _) fun _ hx => h.pollWriteSync (List.getElem?_eq_some_iff.1 hx).1 b⟩
  | serRead p =>
    exact ⟨_, rfl, onPort_induct (h.raise _) fun _ _ => onQueue_induct (h.raise _) fun _ _ _ => h.hostGet _⟩
  | serReadSync p =>
    exact ⟨_, rfl, onPort_induct (h.raise _) fun _ hp => onQueue_induct (h.raise _) fun x hx initialised =>
      h.pollReadSync (List.getElem?_eq_some_iff.1 hp).1 fun y hy => by
        obtain rfl : x = y := by simpa [hx] using hy
        exact initialised⟩
  | serRdf p sel => exact ⟨_, rfl, onPort_induct (h.raise _) fun _ _ => h.finishField _⟩
  | serAdvance => exact ⟨_, rfl, h.serialPass.finish _⟩
  | tmrCreateInterval j period =>
    exact ⟨_, rfl, onTimer_induct (h.raise _) fun _ _ => ite_induct (fun _ => h.raise _) fun nonzero =>
      h.finishTimer (.inr nonzero)⟩
  | tmrCreateTimeout j period =>
    exact ⟨_, rfl, onTimer_induct (h.raise _) fun _ _ => ite_induct (fun _ => h.raise _) fun nonzero =>
      h.finishTimer (.inr nonzero)⟩
  | tmrStart j =>
    exact ⟨_, rfl, onLiveTimer_induct (h.raise _) fun x hx live =>
      h.finishTimer (.inr ((timer hx).reload_ne_zero live))⟩
  | tmrStop j =>
    exact ⟨_, rfl, onLiveTimer_induct (h.raise _) fun x hx live =>
      h.finishTimer (.inr ((timer hx).reload_ne_zero live))⟩
  | tmrPause j =>
    exact ⟨_, rfl, onLiveTimer_induct (h.raise _) fun x hx live =>
      ite_induct (fun _ => h.finishTimer (.inr ((timer hx).reload_ne_zero live))) fun _ => h.raise _⟩
  | tmrResume j =>
    exact ⟨_, rfl, onLiveTimer_induct (h.raise _) fun x hx live =>
      ite_induct (fun _ => h.finishTimer (.inr ((timer hx).reload_ne_zero live))) fun _ => h.raise _⟩
  | tmrDelete j => exact ⟨_, rfl, onTimer_induct (h.raise _) fun _ _ => h.finishTimer (.inl rfl)⟩
  | tmrSetPeriod j period =>
    exact ⟨_, rfl, onLiveTimer_induct (h.raise _) fun _ _ _ => ite_induct (fun _ => h.raise _) fun nonzero =>
      h.finishTimer (.inr nonzero)⟩
  | tmrSetMode j mode =>
    exact ⟨_, rfl, onLiveTimer_induct (h.raise _) fun x hx live =>
      h.finishTimer (.inr ((timer hx).reload_ne_zero live))⟩
  | tmrSetCallback j cbw =>
    exact ⟨_, rfl, onLiveTimer_induct (h.raise _) fun x hx live =>
      h.finishTimer (.inr ((timer hx).reload_ne_zero live))⟩
  | tmrRdf j sel => exact ⟨_, rfl, onTimer_induct (h.raise _) fun _ _ => h.finishField _⟩
  | tmrAdvance => exact ⟨_, rfl, h.timerPass.finish _⟩
  | swCreateDigital j cbw =>
    exact ⟨_, rfl, onSwitch_induct (h.raise _) fun _ _ => ite_induct (fun _ => h.raise _) fun debounced =>
      h.finishSwitch (fun _ => ⟨debounced, nofun, switchCounters_released rfl rfl rfl debounced⟩)⟩
  | swCreateAnalog j cbw =>
    exact ⟨_, rfl, onSwitch_induct (h.raise _) fun _ _ => ite_induct (fun _ => h.raise _) fun source =>
      ite_induct (fun _ => h.raise _) fun debounced => h.finishSwitch (fun _ =>
        ⟨debounced, fun _ => Nat.lt_of_not_le source, switchCounters_released rfl rfl rfl debounced⟩)⟩
  | swDelete j => exact ⟨_, rfl, onSwitch_induct (h.raise _) fun _ _ => h.finishSwitch nofun⟩
  | swSetCallback j cbw =>
    exact ⟨_, rfl, onLiveSwitch_induct (h.raise _) fun x hx => h.finishSwitch ((switch hx).withCallback cbw)⟩
  | swRdf j sel => exact ⟨_, rfl, onSwitch_induct (h.raise _) fun _ _ => h.finishField _⟩
  | swAdvance => exact ⟨_, rfl, h.switchPass.finish _⟩
  | adcCreate j =>
    exact ⟨_, rfl, onChannel_induct (h.raise _) fun _ _ => ite_induct (fun _ => h.raise _) fun shift =>
      h.finishChannel (channelInv_iff.2 fun _ => ⟨Nat.le_of_not_lt shift, nofun, .zero _⟩)⟩
  | adcDelete j => exact ⟨_, rfl, onChannel_induct (h.raise _) fun _ _ => h.finishChannel nofun⟩
  | adcSetCallbacks j =>
    exact ⟨_, rfl, onLiveChannel_induct (h.raise _) fun x hx =>
      h.finishChannel ((channel hx).withCallbacks _ _)⟩
  | adcRdf j sel => exact ⟨_, rfl, onChannel_induct (h.raise _) fun _ _ => h.finishField _⟩
  | adcAdvance => exact ⟨_, rfl, h.analogPass.finish _⟩
  | pdsCreateLow g =>
    exact ⟨_, rfl, onPulse_induct (h.raise _) fun x _ =>
      h.finishPulse (PulseInv.drive (pulseInv_staticPulse (.inl rfl) x.out s) _) _⟩
  | pdsCreateHigh g =>
    exact ⟨_, rfl, onPulse_induct (h.raise _) fun x _ =>
      h.finishPulse (PulseInv.drive (pulseInv_staticPulse (.inr (.inl rfl)) x.out s) _) _⟩
  | pdsCreateIdle g =>
    exact ⟨_, rfl, onPulse_induct (h.raise _) fun _ _ =>
      h.finishPulse (pulseInv_staticPulse (.inr (.inr rfl)) false s) _⟩
  | pdsCreateOneshot g =>
    refine ⟨_, rfl, onPulse_induct (h.raise _) fun x _ => ite_induct (fun _ => h.raise _) fun valid => ?_⟩
    have total : (lowHalf s.arg1 + highHalf s.arg1).toNat = (lowHalf s.arg1).toNat + (highHalf s.arg1).toNat := by
      rw [BitVec.toNat_add]; omega
    have nonzero : lowHalf s.arg1 + highHalf s.arg1 ≠ 0 := toNat_ne_zero_iff.1 (by omega)
    exact h.createPattern (mode := .oneshot) (phase := 0) nonzero total.ge nofun (fun _ => total) (toNat_pos nonzero)
      (.inl rfl) _ x
  | pdsCreateRepeat g =>
    refine ⟨_, rfl, onPulse_induct (h.raise _) fun x _ => ite_induct (fun _ => h.raise _) fun valid =>
      ite_induct (fun _ => h.raise _) fun cycles => ?_⟩
    obtain ⟨nonzero, durations⟩ := not_or.1 valid
    exact h.createPattern (mode := .repeating) (phase := 0) nonzero (Nat.le_of_not_lt durations) (fun _ => cycles) nofun
      (toNat_pos nonzero) (.inr (.inl rfl)) _ x
  | pdsCreateContinuous g =>
    refine ⟨_, rfl, onPulse_induct (h.raise _) fun x _ => ite_induct (fun _ => h.raise _) fun valid => ?_⟩
    obtain ⟨nonzero, durations⟩ := not_or.1 valid
    exact h.createPattern (mode := .continuous) (phase := 0) nonzero (Nat.le_of_not_lt durations) nofun nofun
      (toNat_pos nonzero) (.inr (.inr rfl)) _ x
  | pdsCreatePwm g =>
    refine ⟨_, rfl, onPulse_induct (h.raise _) fun x _ => ite_induct (fun _ => h.raise _) fun valid => ?_⟩
    obtain ⟨nonzero, durations⟩ := not_or.1 valid
    have fits : (0 : Half).toNat + (highHalf s.arg1).toNat ≤ (lowHalf s.arg2).toNat := by
      simpa [BitVec.lt_def] using durations
    exact h.createPattern (mode := .continuous) nonzero fits nofun nofun (pwmOffset_lt _ nonzero) (.inr (.inr rfl)) _ x
  | pdsSync dst src =>
    exact ⟨_, rfl, onLivePulse_induct (h.raise _) fun d hd _ => onLivePulse_induct (h.raise _) fun x hx _ =>
      ite_induct (fun sync => by
        obtain ⟨hdst, href⟩ := Bool.and_eq_true_iff.1 sync
        exact h.finishPulse ((pulse hd).syncCore (pulse hx) hdst href) _) fun _ => h.raise _⟩
  | pdsSyncAll g =>
    exact ⟨_, rfl, onLivePulse_induct (h.raise _) fun r hr _ =>
      ite_induct (fun ref => (h.syncAll (pulse hr) ref _).finish _) fun _ => h.raise _⟩
  | pdsRestart g =>
    exact ⟨_, rfl, onLivePulse_induct (h.raise _) fun x hx live => h.finishPulse ((pulse hx).restart live) _⟩
  | pdsStop g =>
    exact ⟨_, rfl, onLivePulse_induct (h.raise _) fun x hx live =>
      h.finishPulse ((pulse hx).halt (.inr ⟨rfl, live⟩)) _⟩
  | pdsDelete g =>
    exact ⟨_, rfl, onPulse_induct (h.raise _) fun x hx => h.finishPulse ((pulse hx).halt (.inl rfl)) _⟩
  | pdsSetInvert g inv =>
    exact ⟨_, rfl, onLivePulse_induct (h.raise _) fun x hx _ => h.finishPulse ((pulse hx).setInvert inv) _⟩
  | pdsRdf g sel => exact ⟨_, rfl, onPulse_induct (h.raise _) fun _ _ => h.finishField _⟩
  | pdsAdvance => exact ⟨_, rfl, h.pulsePass.finish _⟩

/-! ### The invariant over a step -/

/-- Of the banks, the position of an executing command reads only the number of ports and which queues are
initialised. -/
theorem ActiveInv.congr {s t : State} (h : ActiveInv s) (active : t.active = s.active)
    (ports : t.ports.length = s.ports.length)
    (caps : ∀ j : Nat, (t.queues[j]?).map Queue.cap = (s.queues[j]?).map Queue.cap) : ActiveInv t := by
  unfold ActiveInv at h ⊢
  rw [active, ports]
  split at h
  · trivial
  · trivial
  · exact h
  · exact h
  · next p _ =>
    refine ⟨h.1, fun x hx => ?_⟩
    have cap := caps (rxQueue p.toNat)
    rw [hx] at cap
    obtain ⟨y, hy, same⟩ := Option.map_eq_some_iff.1 cap.symm
    exact same ▸ h.2 y hy

/-- The inputs, the environment and the host's data word are outside the block. -/
theorem State.Inv.withOutside {s : State} (h : s.Inv) (inputs : List Input) (env : Env) (hostData : Word) :
    ({ s with inputs := inputs, env := env, hostData := hostData } : State).Inv := { h with }

theorem State.Inv.setEnv {s : State} (h : s.Inv) (e : Env) : (setEnv e s).Inv := h.withOutside _ e _

theorem State.Inv.rxIrq {s : State} (h : s.Inv) (p : Nat) (b : Byte) : (rxIrq p b s).Inv := by
  rcases rxIrq_cases p b s with same | ⟨x, y, t, hx, hy, initialised, ht, result⟩
  · rwa [same]
  · rw [result]
    have idle := h.idle.queuePut hy initialised ht
    obtain ⟨z, hz, -, rfl⟩ := queuePut_eq_some.1 ht
    refine idle.withActive (h.active.congr rfl rfl fun j => ?_)
    rcases eq_or_ne (rxQueue p) j with rfl | other
    · obtain ⟨inBank, same⟩ := List.getElem?_eq_some_iff.1 hz
      simp [inBank, same]
    · simp [List.getElem?_set_ne other]

theorem State.Inv.resetBlock {s : State} (h : s.Inv) : (resetBlock s).Inv :=
  (State.resetOf_inv h.params).withOutside s.inputs s.env s.hostData

theorem State.Inv.advance {s : State} (h : s.Inv) : (advance s).Inv := by
  have active := h.active
  unfold ActiveInv at active
  unfold Machine.advance
  split
  · exact h
  · exact (h.idle.runPass _).withActive trivial
  · exact h.idle.finish _
  · exact h.idle.finishData _
  · next n left p executing =>
    rw [executing] at active
    refine (h.idle.runPass p).withActive ?_
    cases p with
    | serial => exact Nat.le_of_succ_le active
    | timer | switch | analog | pulse => exact active
  · next p b executing =>
    rw [executing] at active
    exact h.idle.pollWriteSync active b
  · next p executing =>
    rw [executing] at active
    exact h.idle.pollReadSync active.1 active.2

/-- The next state of an answer, if it has one, meets the invariant. -/
def AnswerInv (o : Answer) : Prop := ∀ t, o = .next t → t.Inv

theorem AnswerInv.next {s : State} (h : s.Inv) : AnswerInv (.next s) := by
  rintro _ ⟨⟩
  exact h

theorem AnswerInv.fault (r : Fault) : AnswerInv (.fault r) := by rintro _ ⟨⟩

theorem startCommand_inv {s : State} (h : s.IdleInv) (w : Word) : AnswerInv (startCommand w s) := by
  have accepted : ({ s with cmd := w } : State).IdleInv := { h with }
  unfold startCommand
  split
  · next i _ =>
    obtain ⟨t, ht, inv⟩ := exec_inv i accepted
    exact ht ▸ .next inv
  · exact .next (accepted.raise _)

theorem hostWrite_inv {s : State} (h : s.Inv) (off v : Word) : AnswerInv (hostWrite off v s) := by
  unfold hostWrite
  split
  · exact .next h
  · split
    · exact startCommand_inv h.idle v
    all_goals exact .next { h with }

theorem takeInput_inv {s₀ s : State} (h₀ : s₀.Inv) (h : s.Inv) (i : Input) : AnswerInv (takeInput i s₀ s) := by
  cases i with
  | write off width v =>
    simp only [takeInput]
    split
    · exact hostWrite_inv h off v
    · exact .fault _
  | read off width =>
    simp only [takeInput]
    split
    · exact .next (h.withOutside _ _ _)
    · exact .fault _
  | tick => exact .next { h with }
  | rx p b => exact .next (h.rxIrq p.toNat b)
  | pin p ls => exact .next (h.setEnv _)
  | adc c vs => exact .next (h.setEnv _)
  | txReady p bs => exact .next (h.setEnv _)
  | reset => exact .next h.resetBlock
  | run => exact .next h.advance
  | wait =>
    simp only [takeInput]
    split
    · exact .next h₀.advance
    · exact .next h

/-- Settles O16: whichever input the step takes, its answer meets the invariant. -/
theorem stepKeepsInvariant : Obligations.StepKeepsInvariant := by
  intro s t h ht
  unfold step at ht
  split at ht
  · exact AnswerInv.next h.advance t ht
  · next i rest _ =>
    exact takeInput_inv h (h.withOutside rest _ _) i t ht

/-! ### The frame of every command (R33, R34, R37) -/

/-- From `s` to `t` no bank changes its size and OUT only grows. -/
def Grows (s t : State) : Prop := t.params = s.params ∧ ∃ rs, t.out = s.out ++ rs

theorem Grows.quiet {s t : State} (params : t.params = s.params) (out : t.out = s.out) : Grows s t :=
  ⟨params, [], by simp [out]⟩

theorem Grows.refl (s : State) : Grows s s := .quiet rfl rfl

theorem Grows.trans {s t u : State} (h : Grows s t) (h' : Grows t u) : Grows s u := by
  obtain ⟨params, rs, out⟩ := h
  obtain ⟨params', rs', out'⟩ := h'
  exact ⟨params'.trans params, rs ++ rs', by rw [out', out, List.append_assoc]⟩

/-- Writing records to OUT after a step that wrote none. -/
theorem Grows.emit {s t : State} (h : Grows s t) (rs : List Record) : Grows s (emit rs t) :=
  h.trans ⟨emit_params rs t, rs, rfl⟩

theorem Grows.foldl {f : State → Nat → State} (hf : ∀ s i, Grows s (f s i)) (s : State) (l : List Nat) :
    Grows s (l.foldl f s) :=
  foldl_keeps (P := Grows s) (fun t i ht => ht.trans (hf t i)) l (.refl s)

/-! #### Queue accesses -/

theorem queueGet_grows {q : Nat} {b : Byte} {s t : State} (h : queueGet q s = some (b, t)) : Grows s t := by
  obtain ⟨x, -, -, -, rfl⟩ := queueGet_eq_some.1 h
  exact .quiet (by simp) (by simp)

theorem hostPut_grows {q : Nat} {b : Byte} {s : State} {x : Queue} (h : s.queues[q]? = some x) :
    Grows s (hostPut q b s) := by
  rw [hostPut_eq h]
  exact ite_induct (fun _ => .quiet (by simp [State.params]) rfl) fun _ => .quiet (by simp [State.params]) rfl

theorem hostGet_grows {q : Nat} {s : State} {x : Queue} (h : s.queues[q]? = some x) : Grows s (hostGet q s) := by
  rw [hostGet_eq h]
  exact ite_induct (fun _ => .quiet (by simp [State.params]) rfl) fun _ => .quiet (by simp [State.params]) rfl

/-- A host put writes the queues, QMEM and RES, and ends the command. -/
theorem hostPut_state {q : Nat} {b : Byte} {s : State} {x : Queue} (h : s.queues[q]? = some x) :
    hostPut q b s = { s with res := (hostPut q b s).res, active := (hostPut q b s).active
                             queues := (hostPut q b s).queues, qmem := (hostPut q b s).qmem } := by
  rw [hostPut_eq h]
  split <;> rfl

/-- A host get writes the queues, RDATA, the draws and RES, and ends the command. -/
theorem hostGet_state {q : Nat} {s : State} {x : Queue} (h : s.queues[q]? = some x) :
    hostGet q s = { s with res := (hostGet q s).res, active := (hostGet q s).active, queues := (hostGet q s).queues
                           rdata := (hostGet q s).rdata, env := (hostGet q s).env } := by
  rw [hostGet_eq h]
  split <;> rfl

/-! #### Passes -/

theorem timerPass_grows (s : State) : Grows s (timerPass s) := by
  refine .foldl (fun t i => ?_) s _
  unfold timerSlot
  split
  · exact .emit (.quiet (by simp) (by simp)) _
  · exact .refl t

theorem switchPass_grows (s : State) : Grows s (switchPass s) := by
  refine .foldl (fun t i => ?_) s _
  unfold switchSlot
  split
  · exact .refl t
  · next x _ =>
    refine ite_induct (fun _ => ?_) fun _ => .refl t
    split
    · exact .emit (.quiet ((setSwitch_params ..).trans (drawPin_params x.src t)) rfl) _
    · exact .emit (.quiet (by simp) (by simp)) _

theorem analogPass_grows (s : State) : Grows s (analogPass s) := by
  refine .foldl (fun t i => ?_) s _
  unfold channelSlot
  split
  · exact .refl t
  · exact ite_induct (fun _ => .emit (.quiet (by simp) (by simp)) _) fun _ => .refl t

theorem pulsePass_grows (s : State) : Grows s (pulsePass s) := by
  refine .foldl (fun t g => ?_) s _
  unfold pulseSlot
  split
  · exact .emit (.quiet (by simp) (by simp)) _
  · exact .refl t

theorem rxLoop_grows (p n : Nat) (s : State) : Grows s (rxLoop p n s) := by
  induction n generalizing s with
  | zero => exact .refl s
  | succ n ih =>
    unfold rxLoop
    split
    · exact .refl s
    · next b t ht =>
      have taken := queueGet_grows ht
      split
      · exact taken
      · exact (taken.trans (.emit (.quiet (by simp) (by simp)) _)).trans (ih _)

theorem txLoop_grows (p n : Nat) (s : State) : Grows s (txLoop p n s) := by
  induction n generalizing s with
  | zero => exact .refl s
  | succ n ih =>
    have drawn : Grows s (drawTx (BitVec.ofNat 8 p) s).2 := .quiet (by simp) (by simp)
    unfold txLoop
    refine ite_induct (fun _ => ?_) fun _ => drawn
    split
    · exact drawn
    · next b t ht => exact ((drawn.trans (queueGet_grows ht)).emit _).trans (ih _)

theorem serialPass_grows (s : State) : Grows s (serialPass s) := by
  refine .foldl (fun t p => ?_) s _
  have received : Grows t (serialRx p t) := by
    unfold serialRx
    split
    · exact ite_induct (fun _ => .refl t) fun _ => ite_induct (fun _ => .refl t) fun _ => rxLoop_grows ..
    · exact .refl t
  unfold serialPort serialTx
  split
  · exact ite_induct (fun _ => received) fun _ => received.trans (txLoop_grows ..)
  · exact received

theorem syncAll_grows (ri : Nat) (r : Pulse) (s : State) (l : List Nat) : Grows s (l.foldl (syncSlot ri r) s) := by
  refine .foldl (fun t g => ?_) s _
  unfold syncSlot
  split
  · exact ite_induct (fun _ => .emit (.quiet (by simp) (by simp)) _) fun _ => .refl t
  · exact .refl t

/-- PDS_SYNC_ALL changes the generators and OUT only. -/
theorem syncAll_state (ri : Nat) (r : Pulse) (s : State) (l : List Nat) :
    l.foldl (syncSlot ri r) s =
      { s with pulses := (l.foldl (syncSlot ri r) s).pulses, out := (l.foldl (syncSlot ri r) s).out } := by
  refine foldl_keeps (P := fun t => t = { s with pulses := t.pulses, out := t.out }) (fun t g h => ?_) _ rfl
  unfold syncSlot
  split
  · split
    · rw [h]; rfl
    · exact h
  · exact h

/-! #### Commands -/

/-- Command `i` started in `s` keeps its frame when its step ends in `t`. -/
def Framed (i : Instr) (s t : State) : Prop := t = mayWrite i s t ∧ Grows s t

namespace Framed

variable {i : Instr} {s t : State}

theorem quiet (frame : t = mayWrite i s t) (params : t.params = s.params) (out : t.out = s.out) : Framed i s t :=
  ⟨frame, .quiet params out⟩

/-- Every command may write RES and end. -/
theorem finish {c : ResultCode} : Framed i s (finish c s) :=
  .quiet (by cases i <;> rfl) (by simp) (by simp)

theorem raise {c : ResultCode} : Framed i s (raise c s) := finish

theorem finishField (data : ∀ v, finishData v s = mayWrite i s (finishData v s)) (v : Option Word) :
    Framed i s (finishField v s) := by
  cases v with
  | none => exact raise
  | some v => exact .quiet (data v) (finish_params ..) rfl

theorem finishPulse {g : Nat} {r : Pulse × List Record}
    (frame : finishPulse g r s = mayWrite i s (finishPulse g r s)) : Framed i s (finishPulse g r s) :=
  ⟨frame, by simp [Machine.finishPulse], r.2, rfl⟩

/-- A pass as one atomic command. -/
theorem pass (frame : Machine.finish .ok t = mayWrite i s (Machine.finish .ok t)) (grows : Grows s t) :
    Framed i s (Machine.finish .ok t) :=
  ⟨frame, grows.trans (.quiet (finish_params ..) rfl)⟩

end Framed

/-- Every command answers a next state, and it keeps its frame. -/
theorem exec_framed (i : Instr) (s : State) : ∃ t, exec i s = .next t ∧ Framed i s t := by
  cases i with
  | nop => exact ⟨_, rfl, .finish⟩
  | dspConsume => exact ⟨_, rfl, .quiet rfl rfl rfl⟩
  | dspPass =>
    refine ⟨_, rfl, ?_, (timerPass_grows s).trans (.quiet rfl rfl)⟩
    have frame := timerPass_state s
    simp only [passSubstep, runPass]
    generalize timerPass s = t at frame ⊢
    rw [frame]
    rfl
  | dspRun => exact ⟨_, rfl, .quiet rfl rfl rfl⟩
  | sysRdf sel => exact ⟨_, rfl, .finishField (fun _ => rfl) _⟩
  | clkGet => exact ⟨_, rfl, .quiet rfl rfl rfl⟩
  | clkSet => exact ⟨_, rfl, ite_induct (fun _ => .raise) fun _ => .quiet rfl rfl rfl⟩
  | qInit q =>
    exact ⟨_, rfl, onQueueSlot_induct .raise fun _ _ => ite_induct (fun _ => .raise) fun _ =>
      ite_induct (fun _ => .raise) fun _ => .quiet rfl (by simp) rfl⟩
  | qPut q b =>
    exact ⟨_, rfl, onQueue_induct .raise fun x hx _ => ⟨hostPut_state hx, hostPut_grows hx⟩⟩
  | qGet q =>
    exact ⟨_, rfl, onQueue_induct .raise fun x hx _ => ⟨hostGet_state hx, hostGet_grows hx⟩⟩
  | qSpace q => exact ⟨_, rfl, onQueue_induct .raise fun _ _ _ => .quiet rfl (by simp) rfl⟩
  | qReset q => exact ⟨_, rfl, onQueue_induct .raise fun _ _ _ => .quiet rfl (by simp) rfl⟩
  | qRdf q sel => exact ⟨_, rfl, onQueueSlot_induct .raise fun _ _ => .finishField (fun _ => rfl) _⟩
  | qmRd =>
    refine ⟨_, rfl, ite_induct (fun _ => .raise) fun _ => .quiet ?_ (by simp) (by simp)⟩
    exact congrArg (finishData _) (memRead_state _ s)
  | qmWr b => exact ⟨_, rfl, ite_induct (fun _ => .raise) fun _ => .quiet rfl (by simp) rfl⟩
  | serAttachByte p cbw => exact ⟨_, rfl, onPort_induct .raise fun _ _ => .quiet rfl (by simp) rfl⟩
  | serAttachLine p cbw =>
    exact ⟨_, rfl, onPort_induct .raise fun _ _ => ite_induct (fun _ => .raise) fun _ => .quiet rfl (by simp) rfl⟩
  | serDetachByte p => exact ⟨_, rfl, onPort_induct .raise fun _ _ => .quiet rfl (by simp) rfl⟩
  | serDetachLine p => exact ⟨_, rfl, onPort_induct .raise fun _ _ => .quiet rfl (by simp) rfl⟩
  | serWrite p b =>
    exact ⟨_, rfl, onPort_induct .raise fun _ _ => onQueue_induct .raise fun x hx _ =>
      ⟨hostPut_state hx, hostPut_grows hx⟩⟩
  | serWriteSync p b =>
    refine ⟨_, rfl, onPort_induct .raise fun _ _ => ?_⟩
    rw [pollWriteSync_eq]
    exact ite_induct (fun _ => ⟨rfl, rfl, _, rfl⟩) fun _ => .quiet rfl rfl rfl
  | serRead p =>
    exact ⟨_, rfl, onPort_induct .raise fun _ _ => onQueue_induct .raise fun x hx _ =>
      ⟨hostGet_state hx, hostGet_grows hx⟩⟩
  | serReadSync p =>
    refine ⟨_, rfl, onPort_induct .raise fun _ _ => onQueue_induct .raise fun x hx _ => ?_⟩
    rw [pollReadSync_eq hx]
    exact ite_induct (fun _ => .quiet rfl rfl rfl) fun _ => ⟨hostGet_state hx, hostGet_grows hx⟩
  | serRdf p sel => exact ⟨_, rfl, onPort_induct .raise fun _ _ => .finishField (fun _ => rfl) _⟩
  | serAdvance => exact ⟨_, rfl, .pass (congrArg (finish .ok) (serialPass_state s)) (serialPass_grows s)⟩
  | tmrCreateInterval j period =>
    exact ⟨_, rfl, onTimer_induct .raise fun _ _ => ite_induct (fun _ => .raise) fun _ => .quiet rfl (by simp) rfl⟩
  | tmrCreateTimeout j period =>
    exact ⟨_, rfl, onTimer_induct .raise fun _ _ => ite_induct (fun _ => .raise) fun _ => .quiet rfl (by simp) rfl⟩
  | tmrStart j => exact ⟨_, rfl, onLiveTimer_induct .raise fun _ _ _ => .quiet rfl (by simp) rfl⟩
  | tmrStop j => exact ⟨_, rfl, onLiveTimer_induct .raise fun _ _ _ => .quiet rfl (by simp) rfl⟩
  | tmrPause j =>
    exact ⟨_, rfl, onLiveTimer_induct .raise fun _ _ _ =>
      ite_induct (fun _ => .quiet rfl (by simp) rfl) fun _ => .raise⟩
  | tmrResume j =>
    exact ⟨_, rfl, onLiveTimer_induct .raise fun _ _ _ =>
      ite_induct (fun _ => .quiet rfl (by simp) rfl) fun _ => .raise⟩
  | tmrDelete j => exact ⟨_, rfl, onTimer_induct .raise fun _ _ => .quiet rfl (by simp) rfl⟩
  | tmrSetPeriod j period =>
    exact ⟨_, rfl, onLiveTimer_induct .raise fun _ _ _ =>
      ite_induct (fun _ => .raise) fun _ => .quiet rfl (by simp) rfl⟩
  | tmrSetMode j mode => exact ⟨_, rfl, onLiveTimer_induct .raise fun _ _ _ => .quiet rfl (by simp) rfl⟩
  | tmrSetCallback j cbw => exact ⟨_, rfl, onLiveTimer_induct .raise fun _ _ _ => .quiet rfl (by simp) rfl⟩
  | tmrRdf j sel => exact ⟨_, rfl, onTimer_induct .raise fun _ _ => .finishField (fun _ => rfl) _⟩
  | tmrAdvance => exact ⟨_, rfl, .pass (congrArg (finish .ok) (timerPass_state s)) (timerPass_grows s)⟩
  | swCreateDigital j cbw =>
    exact ⟨_, rfl, onSwitch_induct .raise fun _ _ => ite_induct (fun _ => .raise) fun _ => .quiet rfl (by simp) rfl⟩
  | swCreateAnalog j cbw =>
    exact ⟨_, rfl, onSwitch_induct .raise fun _ _ => ite_induct (fun _ => .raise) fun _ =>
      ite_induct (fun _ => .raise) fun _ => .quiet rfl (by simp) rfl⟩
  | swDelete j => exact ⟨_, rfl, onSwitch_induct .raise fun _ _ => .quiet rfl (by simp) rfl⟩
  | swSetCallback j cbw => exact ⟨_, rfl, onLiveSwitch_induct .raise fun _ _ => .quiet rfl (by simp) rfl⟩
  | swRdf j sel => exact ⟨_, rfl, onSwitch_induct .raise fun _ _ => .finishField (fun _ => rfl) _⟩
  | swAdvance => exact ⟨_, rfl, .pass (congrArg (finish .ok) (switchPass_state s)) (switchPass_grows s)⟩
  | adcCreate j =>
    exact ⟨_, rfl, onChannel_induct .raise fun _ _ => ite_induct (fun _ => .raise) fun _ => .quiet rfl (by simp) rfl⟩
  | adcDelete j => exact ⟨_, rfl, onChannel_induct .raise fun _ _ => .quiet rfl (by simp) rfl⟩
  | adcSetCallbacks j => exact ⟨_, rfl, onLiveChannel_induct .raise fun _ _ => .quiet rfl (by simp) rfl⟩
  | adcRdf j sel => exact ⟨_, rfl, onChannel_induct .raise fun _ _ => .finishField (fun _ => rfl) _⟩
  | adcAdvance => exact ⟨_, rfl, .pass (congrArg (finish .ok) (analogPass_state s)) (analogPass_grows s)⟩
  | pdsCreateLow g => exact ⟨_, rfl, onPulse_induct .raise fun _ _ => .finishPulse rfl⟩
  | pdsCreateHigh g => exact ⟨_, rfl, onPulse_induct .raise fun _ _ => .finishPulse rfl⟩
  | pdsCreateIdle g => exact ⟨_, rfl, onPulse_induct .raise fun _ _ => .finishPulse rfl⟩
  | pdsCreateOneshot g =>
    exact ⟨_, rfl, onPulse_induct .raise fun _ _ => ite_induct (fun _ => .raise) fun _ => .finishPulse rfl⟩
  | pdsCreateRepeat g =>
    exact ⟨_, rfl, onPulse_induct .raise fun _ _ => ite_induct (fun _ => .raise) fun _ =>
      ite_induct (fun _ => .raise) fun _ => .finishPulse rfl⟩
  | pdsCreateContinuous g =>
    exact ⟨_, rfl, onPulse_induct .raise fun _ _ => ite_induct (fun _ => .raise) fun _ => .finishPulse rfl⟩
  | pdsCreatePwm g =>
    exact ⟨_, rfl, onPulse_induct .raise fun _ _ => ite_induct (fun _ => .raise) fun _ => .finishPulse rfl⟩
  | pdsSync dst src =>
    exact ⟨_, rfl, onLivePulse_induct .raise fun _ _ _ => onLivePulse_induct .raise fun _ _ _ =>
      ite_induct (fun _ => .finishPulse rfl) fun _ => .raise⟩
  | pdsSyncAll g =>
    exact ⟨_, rfl, onLivePulse_induct .raise fun _ _ _ => ite_induct
      (fun _ => .pass (congrArg (finish .ok) (syncAll_state ..)) (syncAll_grows ..)) fun _ => .raise⟩
  | pdsRestart g => exact ⟨_, rfl, onLivePulse_induct .raise fun _ _ _ => .finishPulse rfl⟩
  | pdsStop g => exact ⟨_, rfl, onLivePulse_induct .raise fun _ _ _ => .finishPulse rfl⟩
  | pdsDelete g => exact ⟨_, rfl, onPulse_induct .raise fun _ _ => .finishPulse rfl⟩
  | pdsSetInvert g inv => exact ⟨_, rfl, onLivePulse_induct .raise fun _ _ _ => .finishPulse rfl⟩
  | pdsRdf g sel => exact ⟨_, rfl, onPulse_induct .raise fun _ _ => .finishField (fun _ => rfl) _⟩
  | pdsAdvance => exact ⟨_, rfl, .pass (congrArg (finish .ok) (pulsePass_state s)) (pulsePass_grows s)⟩

/-- Settles O18, by the command. -/
theorem frameOfEveryCommand : Obligations.FrameOfEveryCommand := by
  intro i s t hexec
  obtain ⟨u, hu, frame⟩ := exec_framed i s
  obtain rfl : u = t := by simpa [hu] using hexec
  exact frame

/-! ### Passes do not read the registers (R523, R527)

What a pass does depends on the banks, QMEM, OUT and the draws alone, and these are all it writes. So it commutes with
every change of the registers: the position of the executing command, TICK, the operands. -/

/-- The banks, QMEM, OUT and the draws of `s` with every other field of `r`. -/
def State.withRegisters (r s : State) : State :=
  { r with queues := s.queues, ports := s.ports, timers := s.timers, switches := s.switches, channels := s.channels
           pulses := s.pulses, qmem := s.qmem, out := s.out, env := s.env }

section
variable (r : State)

theorem foldl_withRegisters {f : State → Nat → State}
    (hf : ∀ s i, f (r.withRegisters s) i = r.withRegisters (f s i)) (l : List Nat) (s : State) :
    l.foldl f (r.withRegisters s) = r.withRegisters (l.foldl f s) :=
  List.foldl_hom r.withRegisters hf

theorem memRead_withRegisters (a : Nat) (s : State) :
    memRead a (r.withRegisters s) = ((memRead a s).1, r.withRegisters (memRead a s).2) := by
  unfold memRead
  dsimp only [State.withRegisters]
  split <;> rfl

theorem queueGet_withRegisters (q : Nat) (s : State) :
    queueGet q (r.withRegisters s) = (queueGet q s).map fun taken => (taken.1, r.withRegisters taken.2) := by
  unfold queueGet
  have same : (r.withRegisters s).queues = s.queues := rfl
  rw [same]
  split
  · rfl
  · split
    · rfl
    · rw [memRead_withRegisters]; rfl

theorem timerPass_withRegisters (s : State) : timerPass (r.withRegisters s) = r.withRegisters (timerPass s) := by
  refine foldl_withRegisters r (fun t i => ?_) _ s
  unfold timerSlot
  dsimp only [State.withRegisters]
  split <;> rfl

theorem switchPass_withRegisters (s : State) : switchPass (r.withRegisters s) = r.withRegisters (switchPass s) := by
  refine foldl_withRegisters r (fun t i => ?_) _ s
  unfold switchSlot
  dsimp only [State.withRegisters]
  split
  · rfl
  · split
    · split <;> rfl
    · rfl

theorem analogPass_withRegisters (s : State) : analogPass (r.withRegisters s) = r.withRegisters (analogPass s) := by
  refine foldl_withRegisters r (fun t i => ?_) _ s
  unfold channelSlot
  dsimp only [State.withRegisters]
  split
  · rfl
  · split <;> rfl

theorem pulsePass_withRegisters (s : State) : pulsePass (r.withRegisters s) = r.withRegisters (pulsePass s) := by
  refine foldl_withRegisters r (fun t g => ?_) _ s
  unfold pulseSlot
  dsimp only [State.withRegisters]
  split <;> rfl

theorem rxLoop_withRegisters (p n : Nat) (s : State) :
    rxLoop p n (r.withRegisters s) = r.withRegisters (rxLoop p n s) := by
  induction n generalizing s with
  | zero => rfl
  | succ n ih =>
    simp only [rxLoop, queueGet_withRegisters]
    cases queueGet (rxQueue p) s with
    | none => rfl
    | some taken =>
      obtain ⟨b, t⟩ := taken
      have same : (r.withRegisters t).ports = t.ports := rfl
      simp only [Option.map_some, same]
      cases t.ports[p]? with
      | none => rfl
      | some x => exact ih (emit _ (setPort p _ t))

theorem txLoop_withRegisters (p n : Nat) (s : State) :
    txLoop p n (r.withRegisters s) = r.withRegisters (txLoop p n s) := by
  induction n generalizing s with
  | zero => rfl
  | succ n ih =>
    have drawn : drawTx (BitVec.ofNat 8 p) (r.withRegisters s) =
        ((drawTx (BitVec.ofNat 8 p) s).1, r.withRegisters (drawTx (BitVec.ofNat 8 p) s).2) := rfl
    simp only [txLoop, drawn, queueGet_withRegisters]
    split
    · cases queueGet (txQueue p) (drawTx (BitVec.ofNat 8 p) s).2 with
      | none => rfl
      | some taken => exact ih (emit _ taken.2)
    · rfl

theorem serialRx_withRegisters (p : Nat) (s : State) :
    serialRx p (r.withRegisters s) = r.withRegisters (serialRx p s) := by
  have same : (r.withRegisters s).ports = s.ports ∧ (r.withRegisters s).queues = s.queues := ⟨rfl, rfl⟩
  unfold serialRx
  rw [same.1, same.2]
  split
  · split
    · rfl
    · split
      · rfl
      · exact rxLoop_withRegisters ..
  · rfl

theorem serialTx_withRegisters (p : Nat) (s : State) :
    serialTx p (r.withRegisters s) = r.withRegisters (serialTx p s) := by
  have same : (r.withRegisters s).queues = s.queues := rfl
  unfold serialTx
  rw [same]
  split
  · split
    · rfl
    · exact txLoop_withRegisters ..
  · rfl

theorem serialPass_withRegisters (s : State) : serialPass (r.withRegisters s) = r.withRegisters (serialPass s) := by
  refine foldl_withRegisters r (fun t p => ?_) _ s
  unfold serialPort
  rw [serialRx_withRegisters, serialTx_withRegisters]

theorem runPass_withRegisters (p : Pass) (s : State) :
    runPass p (r.withRegisters s) = r.withRegisters (runPass p s) := by
  cases p with
  | timer => exact timerPass_withRegisters r s
  | switch => exact switchPass_withRegisters r s
  | analog => exact analogPass_withRegisters r s
  | pulse => exact pulsePass_withRegisters r s
  | serial => exact serialPass_withRegisters r s

end

/-- A pass leaves the registers as they are. -/
theorem withRegisters_runPass (p : Pass) (s : State) : s.withRegisters (runPass p s) = runPass p s := by
  have frame := runPass_state p s
  generalize runPass p s = t at frame ⊢
  rw [frame]
  rfl

/-- `s` with its executing command at position `a`. -/
def State.executing (s : State) (a : Active) : State := { s with active := some a }

/-! ### The operands a command reads (R33, R150) -/

/-- Values for ARG0, ARG1, ARG2 and ARG3, in the order of `argMask`. -/
abbrev Args := Word × Word × Word × Word

def State.withArgs (b : Args) (s : State) : State :=
  { s with arg0 := b.1, arg1 := b.2.1, arg2 := b.2.2.1, arg3 := b.2.2.2 }

@[simp] theorem withArgs_arg0 (b : Args) (s : State) : (s.withArgs b).arg0 = b.1 := rfl
@[simp] theorem withArgs_arg1 (b : Args) (s : State) : (s.withArgs b).arg1 = b.2.1 := rfl
@[simp] theorem withArgs_arg2 (b : Args) (s : State) : (s.withArgs b).arg2 = b.2.2.1 := rfl
@[simp] theorem withArgs_arg3 (b : Args) (s : State) : (s.withArgs b).arg3 = b.2.2.2 := rfl

/-- `b` differs from the operands of `s` in no bit that command `i` reads. -/
def ArgsAgree (i : Instr) (s : State) (b : Args) : Prop :=
  s.arg0 &&& (argMask i).1 = b.1 &&& (argMask i).1 ∧ s.arg1 &&& (argMask i).2.1 = b.2.1 &&& (argMask i).2.1 ∧
  s.arg2 &&& (argMask i).2.2.1 = b.2.2.1 &&& (argMask i).2.2.1 ∧
  s.arg3 &&& (argMask i).2.2.2 = b.2.2.2 &&& (argMask i).2.2.2

/-- A field that lies under the mask is the same in two words that agree under the mask. -/
theorem extractLsb'_of_masked {v w mask : Word} (agree : v &&& mask = w &&& mask) {start len : Nat}
    (covered : mask.extractLsb' start len = BitVec.allOnes len) :
    v.extractLsb' start len = w.extractLsb' start len := by
  have fields := congrArg (BitVec.extractLsb' start len) agree
  simpa [BitVec.extractLsb'_and, covered] using fields

theorem getLsbD_of_masked {v w mask : Word} (agree : v &&& mask = w &&& mask) {k : Nat}
    (covered : mask.getLsbD k = true) : v.getLsbD k = w.getLsbD k := by
  have bits := congrArg (BitVec.getLsbD · k) agree
  simpa [BitVec.getLsbD_and, covered] using bits


/-! #### Operations that read no operand -/

section
variable {b : Args} {s : State} {j : Nat}

theorem ite_withArgs {c : Prop} [Decidable c] {t t' u u' : State} (ht : t' = t.withArgs b) (hu : u' = u.withArgs b) :
    (if c then t' else u') = (if c then t else u).withArgs b := by
  split
  · exact ht
  · exact hu

theorem onQueueSlot_withArgs {k k' : Queue → State}
    (body : ∀ x, s.queues[j]? = some x → k' x = (k x).withArgs b) :
    onQueueSlot j (s.withArgs b) k' = (onQueueSlot j s k).withArgs b := by
  cases hx : s.queues[j]? with
  | none => rw [onQueueSlot_of_none hx, onQueueSlot_of_none (s := s.withArgs b) hx]; rfl
  | some x => rw [onQueueSlot_of_some hx, onQueueSlot_of_some (s := s.withArgs b) hx]; exact body x hx

theorem onQueue_withArgs {k k' : Queue → State} (body : ∀ x, s.queues[j]? = some x → k' x = (k x).withArgs b) :
    onQueue j (s.withArgs b) k' = (onQueue j s k).withArgs b :=
  onQueueSlot_withArgs fun x hx => ite_withArgs rfl (body x hx)

theorem onPort_withArgs {k k' : Port → State} (body : ∀ x, k' x = (k x).withArgs b) :
    onPort j (s.withArgs b) k' = (onPort j s k).withArgs b := by
  cases hx : s.ports[j]? with
  | none => rw [onPort_of_none hx, onPort_of_none (s := s.withArgs b) hx]; rfl
  | some x => rw [onPort_of_some hx, onPort_of_some (s := s.withArgs b) hx]; exact body x

theorem onTimer_withArgs {k k' : Timer → State} (body : ∀ x, k' x = (k x).withArgs b) :
    onTimer j (s.withArgs b) k' = (onTimer j s k).withArgs b := by
  cases hx : s.timers[j]? with
  | none => rw [onTimer_of_none hx, onTimer_of_none (s := s.withArgs b) hx]; rfl
  | some x => rw [onTimer_of_some hx, onTimer_of_some (s := s.withArgs b) hx]; exact body x

theorem onLiveTimer_withArgs {k k' : Timer → State} (body : ∀ x, k' x = (k x).withArgs b) :
    onLiveTimer j (s.withArgs b) k' = (onLiveTimer j s k).withArgs b :=
  onTimer_withArgs fun x => ite_withArgs rfl (body x)

theorem onSwitch_withArgs {k k' : Switch → State} (body : ∀ x, k' x = (k x).withArgs b) :
    onSwitch j (s.withArgs b) k' = (onSwitch j s k).withArgs b := by
  cases hx : s.switches[j]? with
  | none => rw [onSwitch_of_none hx, onSwitch_of_none (s := s.withArgs b) hx]; rfl
  | some x => rw [onSwitch_of_some hx, onSwitch_of_some (s := s.withArgs b) hx]; exact body x

theorem onLiveSwitch_withArgs {k k' : Switch → State} (body : ∀ x, k' x = (k x).withArgs b) :
    onLiveSwitch j (s.withArgs b) k' = (onLiveSwitch j s k).withArgs b :=
  onSwitch_withArgs fun x => ite_withArgs (body x) rfl

theorem onChannel_withArgs {k k' : Channel → State} (body : ∀ x, k' x = (k x).withArgs b) :
    onChannel j (s.withArgs b) k' = (onChannel j s k).withArgs b := by
  cases hx : s.channels[j]? with
  | none => rw [onChannel_of_none hx, onChannel_of_none (s := s.withArgs b) hx]; rfl
  | some x => rw [onChannel_of_some hx, onChannel_of_some (s := s.withArgs b) hx]; exact body x

theorem onLiveChannel_withArgs {k k' : Channel → State} (body : ∀ x, k' x = (k x).withArgs b) :
    onLiveChannel j (s.withArgs b) k' = (onLiveChannel j s k).withArgs b :=
  onChannel_withArgs fun x => ite_withArgs (body x) rfl

theorem onPulse_withArgs {k k' : Pulse → State} (body : ∀ x, k' x = (k x).withArgs b) :
    onPulse j (s.withArgs b) k' = (onPulse j s k).withArgs b := by
  cases hx : s.pulses[j]? with
  | none => rw [onPulse_of_none hx, onPulse_of_none (s := s.withArgs b) hx]; rfl
  | some x => rw [onPulse_of_some hx, onPulse_of_some (s := s.withArgs b) hx]; exact body x

theorem onLivePulse_withArgs {k k' : Pulse → State} (body : ∀ x, k' x = (k x).withArgs b) :
    onLivePulse j (s.withArgs b) k' = (onLivePulse j s k).withArgs b :=
  onPulse_withArgs fun x => ite_withArgs rfl (body x)

theorem finishField_withArgs (v : Option Word) : finishField v (s.withArgs b) = (finishField v s).withArgs b := by
  cases v <;> rfl

theorem memRead_withArgs (a : Nat) : memRead a (s.withArgs b) = ((memRead a s).1, (memRead a s).2.withArgs b) := by
  unfold memRead
  dsimp only [State.withArgs]
  split <;> rfl

theorem hostPut_withArgs {x : Queue} (hx : s.queues[j]? = some x) (byte : Byte) :
    hostPut j byte (s.withArgs b) = (hostPut j byte s).withArgs b := by
  rw [hostPut_eq hx, hostPut_eq (s := s.withArgs b) hx]
  exact ite_withArgs rfl rfl

theorem hostGet_withArgs {x : Queue} (hx : s.queues[j]? = some x) :
    hostGet j (s.withArgs b) = (hostGet j s).withArgs b := by
  rw [hostGet_eq hx, hostGet_eq (s := s.withArgs b) hx, memRead_withArgs]
  exact ite_withArgs rfl rfl

theorem pollWriteSync_withArgs (p byte : Byte) :
    pollWriteSync p byte (s.withArgs b) = (pollWriteSync p byte s).withArgs b := by
  rw [pollWriteSync_eq, pollWriteSync_eq]
  exact ite_withArgs rfl rfl

theorem pollReadSync_withArgs {p : Byte} {x : Queue} (hx : s.queues[rxQueue p.toNat]? = some x) :
    pollReadSync p (s.withArgs b) = (pollReadSync p s).withArgs b := by
  rw [pollReadSync_eq hx, pollReadSync_eq (s := s.withArgs b) hx]
  exact ite_withArgs rfl (hostGet_withArgs hx)

theorem runPass_withArgs (p : Pass) : runPass p (s.withArgs b) = (runPass p s).withArgs b :=
  calc runPass p (s.withArgs b)
    _ = (s.withArgs b).withRegisters (runPass p s) := runPass_withRegisters (s.withArgs b) p s
    _ = (s.withRegisters (runPass p s)).withArgs b := rfl
    _ = (runPass p s).withArgs b := by rw [withRegisters_runPass]

theorem syncAll_withArgs (r : Pulse) (l : List Nat) :
    l.foldl (syncSlot j r) (s.withArgs b) = (l.foldl (syncSlot j r) s).withArgs b := by
  refine List.foldl_hom (State.withArgs b) fun t g => ?_
  unfold syncSlot
  dsimp only [State.withArgs]
  split
  · split <;> rfl
  · rfl

/-! #### Generators are created from `pdspin` in ARG0 (R144) -/

theorem staticPulse_withArgs (agree : s.arg0 &&& 0x1FF = b.1 &&& 0x1FF) (mode : PulseMode) (out : Bool) :
    staticPulse mode out (s.withArgs b) = staticPulse mode out s := by
  have pin : lowByte b.1 = lowByte s.arg0 := extractLsb'_of_masked agree.symm (by decide)
  have inv : bit8 b.1 = bit8 s.arg0 := getLsbD_of_masked agree.symm (by decide)
  simp only [staticPulse, State.withArgs, pin, inv]

theorem createPattern_withArgs (agree : s.arg0 &&& 0x1FF = b.1 &&& 0x1FF) {mode : PulseMode}
    {head act total cycles phase : Half} {old : Pulse} :
    createPattern j mode head act total cycles phase old (s.withArgs b) =
      (createPattern j mode head act total cycles phase old s).withArgs b := by
  have pin : lowByte b.1 = lowByte s.arg0 := extractLsb'_of_masked agree.symm (by decide)
  have inv : bit8 b.1 = bit8 s.arg0 := getLsbD_of_masked agree.symm (by decide)
  have same : patternPulse mode head act total cycles phase old.out (s.withArgs b) =
      patternPulse mode head act total cycles phase old.out s := by
    simp only [patternPulse, State.withArgs, pin, inv]
  simp only [createPattern, same]
  rfl

end

/-! #### Commands -/

theorem next_withArgs {b : Args} {t t' : State} (h : t' = t.withArgs b) :
    (.next t' : Answer) = .next (t.withArgs b) := congrArg Host.Outcome.next h

/-- A command goes the same way from operands that agree in the bits it reads. -/
theorem exec_withArgs {i : Instr} {s : State} {b : Args} (agree : ArgsAgree i s b) :
    ∃ t, exec i s = .next t ∧ exec i (s.withArgs b) = .next (t.withArgs b) := by
  obtain ⟨agree0, agree1, agree2, agree3⟩ := agree
  cases i with
  | nop => exact ⟨_, rfl, rfl⟩
  | dspConsume => exact ⟨_, rfl, rfl⟩
  | dspPass =>
    exact ⟨_, rfl, next_withArgs (congrArg (State.executing · _) (runPass_withArgs .timer))⟩
  | dspRun => exact ⟨_, rfl, rfl⟩
  | sysRdf sel => exact ⟨_, rfl, next_withArgs (finishField_withArgs _)⟩
  | clkGet => exact ⟨_, rfl, rfl⟩
  | clkSet =>
    simp only [argMask] at agree0
    have hour : clkHour b.1 = clkHour s.arg0 := congrArg BitVec.toNat (extractLsb'_of_masked agree0.symm (by decide))
    have minute : clkMin b.1 = clkMin s.arg0 := congrArg BitVec.toNat (extractLsb'_of_masked agree0.symm (by decide))
    have sec : clkSec b.1 = clkSec s.arg0 := congrArg BitVec.toNat (extractLsb'_of_masked agree0.symm (by decide))
    have ms : clkMs b.1 = clkMs s.arg0 := congrArg BitVec.toNat (extractLsb'_of_masked agree0.symm (by decide))
    refine ⟨_, rfl, next_withArgs ?_⟩
    simp only [State.withArgs, hour, minute, sec, ms]
    exact ite_withArgs rfl rfl
  | qInit q =>
    simp only [argMask] at agree0 agree1
    have base : lowHalf b.1 = lowHalf s.arg0 := extractLsb'_of_masked agree0.symm (by decide)
    have len : lowHalf b.2.1 = lowHalf s.arg1 := extractLsb'_of_masked agree1.symm (by decide)
    refine ⟨_, rfl, next_withArgs (onQueueSlot_withArgs fun _ _ => ?_)⟩
    simp only [State.withArgs, base, len]
    exact ite_withArgs rfl (ite_withArgs rfl rfl)
  | qPut q byte => exact ⟨_, rfl, next_withArgs (onQueue_withArgs fun _ hx => hostPut_withArgs hx byte)⟩
  | qGet q => exact ⟨_, rfl, next_withArgs (onQueue_withArgs fun _ hx => hostGet_withArgs hx)⟩
  | qSpace q => exact ⟨_, rfl, next_withArgs (onQueue_withArgs fun _ _ => rfl)⟩
  | qReset q => exact ⟨_, rfl, next_withArgs (onQueue_withArgs fun _ _ => rfl)⟩
  | qRdf q sel => exact ⟨_, rfl, next_withArgs (onQueueSlot_withArgs fun _ _ => finishField_withArgs _)⟩
  | qmRd =>
    simp only [argMask] at agree0
    have address : lowHalf b.1 = lowHalf s.arg0 := extractLsb'_of_masked agree0.symm (by decide)
    refine ⟨_, rfl, next_withArgs ?_⟩
    simp only [withArgs_arg0, address, memRead_withArgs]
    exact ite_withArgs rfl rfl
  | qmWr byte =>
    simp only [argMask] at agree0
    have address : lowHalf b.1 = lowHalf s.arg0 := extractLsb'_of_masked agree0.symm (by decide)
    refine ⟨_, rfl, next_withArgs ?_⟩
    simp only [State.withArgs, address]
    exact ite_withArgs rfl rfl
  | serAttachByte p cbw => exact ⟨_, rfl, next_withArgs (onPort_withArgs fun _ => rfl)⟩
  | serAttachLine p cbw =>
    simp only [argMask] at agree0
    have size : lowHalf b.1 = lowHalf s.arg0 := extractLsb'_of_masked agree0.symm (by decide)
    have term : termOf b.1 = termOf s.arg0 := extractLsb'_of_masked agree0.symm (by decide)
    refine ⟨_, rfl, next_withArgs (onPort_withArgs fun _ => ?_)⟩
    simp only [State.withArgs, size, term]
    exact ite_withArgs rfl rfl
  | serDetachByte p => exact ⟨_, rfl, next_withArgs (onPort_withArgs fun _ => rfl)⟩
  | serDetachLine p => exact ⟨_, rfl, next_withArgs (onPort_withArgs fun _ => rfl)⟩
  | serWrite p byte =>
    exact ⟨_, rfl, next_withArgs (onPort_withArgs fun _ => onQueue_withArgs fun _ hx => hostPut_withArgs hx byte)⟩
  | serWriteSync p byte => exact ⟨_, rfl, next_withArgs (onPort_withArgs fun _ => pollWriteSync_withArgs p byte)⟩
  | serRead p =>
    exact ⟨_, rfl, next_withArgs (onPort_withArgs fun _ => onQueue_withArgs fun _ hx => hostGet_withArgs hx)⟩
  | serReadSync p =>
    exact ⟨_, rfl, next_withArgs (onPort_withArgs fun _ => onQueue_withArgs fun _ hx => pollReadSync_withArgs hx)⟩
  | serRdf p sel => exact ⟨_, rfl, next_withArgs (onPort_withArgs fun _ => finishField_withArgs _)⟩
  | serAdvance => exact ⟨_, rfl, next_withArgs (congrArg (finish .ok) (runPass_withArgs .serial))⟩
  | tmrCreateInterval j period =>
    simp only [argMask] at agree0
    have cb : lowHalf b.1 = lowHalf s.arg0 := extractLsb'_of_masked agree0.symm (by decide)
    refine ⟨_, rfl, next_withArgs (onTimer_withArgs fun _ => ?_)⟩
    simp only [State.withArgs, cb]
    exact ite_withArgs rfl rfl
  | tmrCreateTimeout j period =>
    simp only [argMask] at agree0
    have cb : lowHalf b.1 = lowHalf s.arg0 := extractLsb'_of_masked agree0.symm (by decide)
    refine ⟨_, rfl, next_withArgs (onTimer_withArgs fun _ => ?_)⟩
    simp only [State.withArgs, cb]
    exact ite_withArgs rfl rfl
  | tmrStart j => exact ⟨_, rfl, next_withArgs (onLiveTimer_withArgs fun _ => rfl)⟩
  | tmrStop j => exact ⟨_, rfl, next_withArgs (onLiveTimer_withArgs fun _ => rfl)⟩
  | tmrPause j => exact ⟨_, rfl, next_withArgs (onLiveTimer_withArgs fun _ => ite_withArgs rfl rfl)⟩
  | tmrResume j => exact ⟨_, rfl, next_withArgs (onLiveTimer_withArgs fun _ => ite_withArgs rfl rfl)⟩
  | tmrDelete j => exact ⟨_, rfl, next_withArgs (onTimer_withArgs fun _ => rfl)⟩
  | tmrSetPeriod j period => exact ⟨_, rfl, next_withArgs (onLiveTimer_withArgs fun _ => ite_withArgs rfl rfl)⟩
  | tmrSetMode j mode => exact ⟨_, rfl, next_withArgs (onLiveTimer_withArgs fun _ => rfl)⟩
  | tmrSetCallback j cbw => exact ⟨_, rfl, next_withArgs (onLiveTimer_withArgs fun _ => rfl)⟩
  | tmrRdf j sel => exact ⟨_, rfl, next_withArgs (onTimer_withArgs fun _ => finishField_withArgs _)⟩
  | tmrAdvance => exact ⟨_, rfl, next_withArgs (congrArg (finish .ok) (runPass_withArgs .timer))⟩
  | swCreateDigital j cbw =>
    simp only [argMask] at agree0 agree1 agree2
    have pin : lowByte b.1 = lowByte s.arg0 := extractLsb'_of_masked agree0.symm (by decide)
    have level : bit8 b.1 = bit8 s.arg0 := getLsbD_of_masked agree0.symm (by decide)
    have debounce : lowHalf b.2.1 = lowHalf s.arg1 := extractLsb'_of_masked agree1.symm (by decide)
    have hold : highHalf b.2.1 = highHalf s.arg1 := extractLsb'_of_masked agree1.symm (by decide)
    have rep : lowHalf b.2.2.1 = lowHalf s.arg2 := extractLsb'_of_masked agree2.symm (by decide)
    refine ⟨_, rfl, next_withArgs (onSwitch_withArgs fun _ => ?_)⟩
    simp only [State.withArgs, pin, level, debounce, hold, rep]
    exact ite_withArgs rfl rfl
  | swCreateAnalog j cbw =>
    simp only [argMask] at agree0 agree1 agree2
    have source : lowByte b.1 = lowByte s.arg0 := extractLsb'_of_masked agree0.symm (by decide)
    have value : onValueOf b.1 = onValueOf s.arg0 := extractLsb'_of_masked agree0.symm (by decide)
    have tol : tolOf b.1 = tolOf s.arg0 := extractLsb'_of_masked agree0.symm (by decide)
    have debounce : lowHalf b.2.1 = lowHalf s.arg1 := extractLsb'_of_masked agree1.symm (by decide)
    have hold : highHalf b.2.1 = highHalf s.arg1 := extractLsb'_of_masked agree1.symm (by decide)
    have rep : lowHalf b.2.2.1 = lowHalf s.arg2 := extractLsb'_of_masked agree2.symm (by decide)
    refine ⟨_, rfl, next_withArgs (onSwitch_withArgs fun _ => ?_)⟩
    simp only [State.withArgs, source, value, tol, debounce, hold, rep]
    exact ite_withArgs rfl (ite_withArgs rfl rfl)
  | swDelete j => exact ⟨_, rfl, next_withArgs (onSwitch_withArgs fun _ => rfl)⟩
  | swSetCallback j cbw => exact ⟨_, rfl, next_withArgs (onLiveSwitch_withArgs fun _ => rfl)⟩
  | swRdf j sel => exact ⟨_, rfl, next_withArgs (onSwitch_withArgs fun _ => finishField_withArgs _)⟩
  | swAdvance => exact ⟨_, rfl, next_withArgs (congrArg (finish .ok) (runPass_withArgs .switch))⟩
  | adcCreate j =>
    simp only [argMask] at agree0 agree1 agree2 agree3
    have channel : lowByte b.1 = lowByte s.arg0 := extractLsb'_of_masked agree0.symm (by decide)
    have shift : shiftOf b.1 = shiftOf s.arg0 := extractLsb'_of_masked agree0.symm (by decide)
    have thr : lowHalf b.2.1 = lowHalf s.arg1 := extractLsb'_of_masked agree1.symm (by decide)
    have evi : highHalf b.2.1 = highHalf s.arg1 := extractLsb'_of_masked agree1.symm (by decide)
    have si : lowHalf b.2.2.1 = lowHalf s.arg2 := extractLsb'_of_masked agree2.symm (by decide)
    have ccb : lowHalf b.2.2.2 = lowHalf s.arg3 := extractLsb'_of_masked agree3.symm (by decide)
    have scb : highHalf b.2.2.2 = highHalf s.arg3 := extractLsb'_of_masked agree3.symm (by decide)
    refine ⟨_, rfl, next_withArgs (onChannel_withArgs fun _ => ?_)⟩
    simp only [State.withArgs, channel, shift, thr, evi, si, ccb, scb]
    exact ite_withArgs rfl rfl
  | adcDelete j => exact ⟨_, rfl, next_withArgs (onChannel_withArgs fun _ => rfl)⟩
  | adcSetCallbacks j =>
    simp only [argMask] at agree3
    have ccb : lowHalf b.2.2.2 = lowHalf s.arg3 := extractLsb'_of_masked agree3.symm (by decide)
    have scb : highHalf b.2.2.2 = highHalf s.arg3 := extractLsb'_of_masked agree3.symm (by decide)
    refine ⟨_, rfl, next_withArgs (onLiveChannel_withArgs fun _ => ?_)⟩
    simp only [State.withArgs, ccb, scb]
    rfl
  | adcRdf j sel => exact ⟨_, rfl, next_withArgs (onChannel_withArgs fun _ => finishField_withArgs _)⟩
  | adcAdvance => exact ⟨_, rfl, next_withArgs (congrArg (finish .ok) (runPass_withArgs .analog))⟩
  | pdsCreateLow g =>
    refine ⟨_, rfl, next_withArgs (onPulse_withArgs fun _ => ?_)⟩
    rw [staticPulse_withArgs agree0]
    rfl
  | pdsCreateHigh g =>
    refine ⟨_, rfl, next_withArgs (onPulse_withArgs fun _ => ?_)⟩
    rw [staticPulse_withArgs agree0]
    rfl
  | pdsCreateIdle g =>
    refine ⟨_, rfl, next_withArgs (onPulse_withArgs fun _ => ?_)⟩
    rw [staticPulse_withArgs agree0]
    rfl
  | pdsCreateOneshot g =>
    simp only [argMask] at agree1
    have head : lowHalf b.2.1 = lowHalf s.arg1 := extractLsb'_of_masked agree1.symm (by decide)
    have act : highHalf b.2.1 = highHalf s.arg1 := extractLsb'_of_masked agree1.symm (by decide)
    refine ⟨_, rfl, next_withArgs (onPulse_withArgs fun _ => ?_)⟩
    simp only [withArgs_arg1, head, act]
    exact ite_withArgs rfl (createPattern_withArgs agree0)
  | pdsCreateRepeat g =>
    simp only [argMask] at agree1 agree2
    have head : lowHalf b.2.1 = lowHalf s.arg1 := extractLsb'_of_masked agree1.symm (by decide)
    have act : highHalf b.2.1 = highHalf s.arg1 := extractLsb'_of_masked agree1.symm (by decide)
    have total : lowHalf b.2.2.1 = lowHalf s.arg2 := extractLsb'_of_masked agree2.symm (by decide)
    have cycles : highHalf b.2.2.1 = highHalf s.arg2 := extractLsb'_of_masked agree2.symm (by decide)
    refine ⟨_, rfl, next_withArgs (onPulse_withArgs fun _ => ?_)⟩
    simp only [withArgs_arg1, withArgs_arg2, head, act, total, cycles]
    exact ite_withArgs rfl (ite_withArgs rfl (createPattern_withArgs agree0))
  | pdsCreateContinuous g =>
    simp only [argMask] at agree1 agree2
    have head : lowHalf b.2.1 = lowHalf s.arg1 := extractLsb'_of_masked agree1.symm (by decide)
    have act : highHalf b.2.1 = highHalf s.arg1 := extractLsb'_of_masked agree1.symm (by decide)
    have total : lowHalf b.2.2.1 = lowHalf s.arg2 := extractLsb'_of_masked agree2.symm (by decide)
    refine ⟨_, rfl, next_withArgs (onPulse_withArgs fun _ => ?_)⟩
    simp only [withArgs_arg1, withArgs_arg2, head, act, total]
    exact ite_withArgs rfl (createPattern_withArgs agree0)
  | pdsCreatePwm g =>
    simp only [argMask] at agree1 agree2
    have act : highHalf b.2.1 = highHalf s.arg1 := extractLsb'_of_masked agree1.symm (by decide)
    have total : lowHalf b.2.2.1 = lowHalf s.arg2 := extractLsb'_of_masked agree2.symm (by decide)
    have shift : highHalf b.2.2.1 = highHalf s.arg2 := extractLsb'_of_masked agree2.symm (by decide)
    refine ⟨_, rfl, next_withArgs (onPulse_withArgs fun _ => ?_)⟩
    simp only [withArgs_arg1, withArgs_arg2, act, total, shift]
    exact ite_withArgs rfl (createPattern_withArgs agree0)
  | pdsSync dst src =>
    exact ⟨_, rfl, next_withArgs (onLivePulse_withArgs fun _ => onLivePulse_withArgs fun _ => ite_withArgs rfl rfl)⟩
  | pdsSyncAll g =>
    exact ⟨_, rfl, next_withArgs (onLivePulse_withArgs fun r =>
      ite_withArgs (congrArg (finish .ok) (syncAll_withArgs r _)) rfl)⟩
  | pdsRestart g => exact ⟨_, rfl, next_withArgs (onLivePulse_withArgs fun _ => rfl)⟩
  | pdsStop g => exact ⟨_, rfl, next_withArgs (onLivePulse_withArgs fun _ => rfl)⟩
  | pdsDelete g => exact ⟨_, rfl, next_withArgs (onPulse_withArgs fun _ => rfl)⟩
  | pdsSetInvert g inv => exact ⟨_, rfl, next_withArgs (onLivePulse_withArgs fun _ => rfl)⟩
  | pdsRdf g sel => exact ⟨_, rfl, next_withArgs (onPulse_withArgs fun _ => finishField_withArgs _)⟩
  | pdsAdvance => exact ⟨_, rfl, next_withArgs (congrArg (finish .ok) (runPass_withArgs .pulse))⟩

/-- Settles O21, by the command. -/
theorem unreadArgumentBitsAreIgnored : Obligations.UnreadArgumentBitsAreIgnored := by
  intro i s t b0 b1 b2 b3 hexec agree0 agree1 agree2 agree3
  obtain ⟨u, hu, same⟩ := exec_withArgs (b := (b0, b1, b2, b3)) ⟨agree0, agree1, agree2, agree3⟩
  obtain rfl : u = t := by simpa [hu] using hexec
  exact same

/-! ### Undisturbed commands (R523, R525, R526, R527)

With no input left every step is the next sub-step of the executing command. -/

theorem step_of_no_inputs {s : State} (h : s.inputs = []) : step s = .next (advance s) := by
  simp [step, h]

theorem runPass_executing (p : Pass) (s : State) (a : Active) :
    runPass p (s.executing a) = (runPass p s).executing a :=
  calc runPass p (s.executing a)
    _ = (s.executing a).withRegisters (runPass p s) := runPass_withRegisters (s.executing a) p s
    _ = (s.withRegisters (runPass p s)).executing a := rfl
    _ = (runPass p s).executing a := by rw [withRegisters_runPass]

@[simp] theorem runPass_inputs (p : Pass) (s : State) : (runPass p s).inputs = s.inputs := by rw [runPass_state]
@[simp] theorem runPass_res (p : Pass) (s : State) : (runPass p s).res = s.res := by rw [runPass_state]
@[simp] theorem runPass_rdata (p : Pass) (s : State) : (runPass p s).rdata = s.rdata := by rw [runPass_state]

theorem pollWriteSync_cases (p b : Byte) (s : State) :
    busy (pollWriteSync p b s) = false ∨
      (pollWriteSync p b s).res = s.res ∧ (pollWriteSync p b s).rdata = s.rdata := by
  rw [pollWriteSync_eq]
  split
  · exact .inl rfl
  · exact .inr ⟨rfl, rfl⟩

theorem pollReadSync_cases (p : Byte) (s : State) :
    busy (pollReadSync p s) = false ∨
      (pollReadSync p s).res = s.res ∧ (pollReadSync p s).rdata = s.rdata := by
  unfold pollReadSync
  split
  · exact .inl rfl
  · exact .inr ⟨rfl, rfl⟩

@[simp] theorem pollWriteSync_inputs (p b : Byte) (s : State) : (pollWriteSync p b s).inputs = s.inputs := by
  rw [pollWriteSync_eq]
  split <;> rfl

@[simp] theorem pollReadSync_inputs (p : Byte) (s : State) : (pollReadSync p s).inputs = s.inputs := by
  unfold pollReadSync
  split
  · next b t ht =>
    have frame := queueGet_state ht
    simp only [finishData_inputs, setLerr_inputs]
    rw [frame]
  · rfl

@[simp] theorem advance_inputs (s : State) : (advance s).inputs = s.inputs := by
  unfold advance
  split <;> simp [passSubstep, runSubstep]

theorem advance_of_idle {s : State} (idle : busy s = false) : advance s = s := by
  have none : s.active = none := by simpa [busy] using idle
  simp [advance, none]

/-- RES and RDATA are written with the end of a command only (R34, R35). -/
theorem advance_result_of_busy {s : State} (unfinished : busy (advance s) = true) :
    (advance s).res = s.res ∧ (advance s).rdata = s.rdata := by
  unfold advance at unfinished ⊢
  split at unfinished
  · exact ⟨rfl, rfl⟩
  · exact ⟨runPass_res _ s, runPass_rdata _ s⟩
  · cases unfinished
  · cases unfinished
  · exact ⟨runPass_res _ s, runPass_rdata _ s⟩
  · next p b _ => exact (pollWriteSync_cases p b s).resolve_left (by simp [unfinished])
  · next p _ => exact (pollReadSync_cases p s).resolve_left (by simp [unfinished])

/-- A command that has not ended after `m` sub-steps has been executing throughout, with RES and RDATA as they were. -/
theorem busy_throughout {s : State} {m : Nat} (unfinished : busy (advance^[m] s) = true) :
    ∀ k ≤ m, busy (advance^[k] s) = true ∧ (advance^[k] s).res = s.res ∧ (advance^[k] s).rdata = s.rdata := by
  induction m with
  | zero =>
    intro k hk
    obtain rfl : k = 0 := Nat.le_zero.1 hk
    exact ⟨unfinished, rfl, rfl⟩
  | succ m ih =>
    rw [Function.iterate_succ_apply'] at unfinished
    have before : busy (advance^[m] s) = true := by
      by_contra idle
      rw [advance_of_idle (by simpa using idle)] at unfinished
      exact idle unfinished
    intro k hk
    rcases Nat.le_succ_iff.1 hk with hk | rfl
    · exact ih before k hk
    · obtain ⟨-, res, rdata⟩ := ih before m le_rfl
      obtain ⟨res', rdata'⟩ := advance_result_of_busy unfinished
      rw [Function.iterate_succ_apply']
      exact ⟨unfinished, res'.trans res, rdata'.trans rdata⟩

theorem run_of_no_inputs {s : State} (h : s.inputs = []) (k : Nat) :
    Sys2Proof.core.run k s = .next (advance^[k] s) := by
  induction k generalizing s with
  | zero => rfl
  | succ k ih =>
    have one : Sys2Proof.core.run (k + 1) s = Sys2Proof.core.run k (advance s) := by
      simp [Host.Core.run, Sys2Proof.core, step_of_no_inputs h]
    rw [one, ih (by simpa using h), Function.iterate_succ_apply]

/-- What the host sees of an undisturbed command up to its sub-step `m`, when it has not ended by then. -/
theorem run_busy_throughout {s : State} (h : s.inputs = []) {m : Nat} (unfinished : busy (advance^[m] s) = true) :
    ∀ k < m + 1, ∃ u, Sys2Proof.core.run k s = .next u ∧ busy u = true ∧ u.res = s.res ∧ u.rdata = s.rdata :=
  fun k hk => ⟨_, run_of_no_inputs h k, busy_throughout unfinished k (Nat.le_of_lt_succ hk)⟩

/-! #### The sub-steps of a round -/

theorem advance_dspPass (p : Pass) (s : State) :
    advance (s.executing (.dspPass (some p))) = (runPass p s).executing (.dspPass (nextPass p)) := by
  change passSubstep p _ = _
  rw [passSubstep, runPass_executing]
  rfl

theorem advance_dspPass_finish (s : State) :
    advance (s.executing (.dspPass none)) = { s with res := .ok, active := none } := rfl

/-- Four sub-steps after the timer pass only the finish of DSP_PASS is left. -/
theorem advance_dspPass_passes (s : State) :
    advance^[4] (s.executing (.dspPass (some .switch))) =
      (serialPass (pulsePass (analogPass (switchPass s)))).executing (.dspPass none) := by
  simp only [Function.iterate_succ_apply, Function.iterate_zero_apply, advance_dspPass, nextPass]
  rfl

theorem advance_dspRun (n : Word) (left : Nat) (p : Pass) (s : State) :
    advance (s.executing (.dspRun n (left + 1) p)) = (runPass p s).executing (match nextPass p with
      | some p' => .dspRun n (left + 1) p'
      | none => .dspRun n left .timer) := by
  change runSubstep n left p _ = _
  rw [runSubstep, runPass_executing]
  rfl

theorem advance_dspRun_finish (n : Word) (p : Pass) (s : State) :
    advance (s.executing (.dspRun n 0 p)) = { s with rdata := n, res := .ok, active := none } := rfl

theorem advance_dspRun_round (n : Word) (left : Nat) (s : State) :
    advance^[5] (s.executing (.dspRun n (left + 1) .timer)) = (round s).executing (.dspRun n left .timer) := by
  simp only [Function.iterate_succ_apply, Function.iterate_zero_apply, advance_dspRun, nextPass]
  rfl

theorem advance_dspRun_rounds (n : Word) (left k : Nat) (s : State) :
    advance^[5 * k] (s.executing (.dspRun n (left + k) .timer)) = (round^[k] s).executing (.dspRun n left .timer) := by
  induction k generalizing s with
  | zero => rfl
  | succ k ih =>
    rw [Nat.mul_succ, Function.iterate_add_apply, ← Nat.add_assoc, advance_dspRun_round, ih,
      Function.iterate_succ_apply]

theorem execDspPass_eq (s : State) :
    exec .dspPass s = .next ((timerPass s).executing (.dspPass (some .switch))) := rfl

theorem execDspRun_eq (s : State) :
    exec .dspRun s =
      .next (State.executing { s with consumed := s.tick } (.dspRun (pending s) (pending s).toNat .timer)) := rfl

/-- Settles O26: the state after each sub-step is computed up to the finish, and before it the command is executing
throughout. -/
theorem dspPassRunsOneRound : Obligations.DspPassRunsOneRound := by
  intro s quiet
  have passes := advance_dspPass_passes (timerPass s)
  have inputs : ((timerPass s).executing (.dspPass (some .switch))).inputs = [] :=
    (runPass_inputs .timer s).trans quiet
  refine ⟨_, execDspPass_eq s, ?_, fun k hk => ?_⟩
  · rw [run_of_no_inputs inputs, Function.iterate_succ_apply', passes, advance_dspPass_finish]
  · obtain ⟨u, run, executing, res, rdata⟩ := run_busy_throughout inputs (congrArg busy passes) k hk
    exact ⟨u, run, executing, res.trans (runPass_res .timer s), rdata.trans (runPass_rdata .timer s)⟩

/-- Settles O27: by rounds up to the last one, before which the command is executing throughout. -/
theorem dspRunRunsARoundPerTick : Obligations.DspRunRunsARoundPerTick := by
  intro s quiet
  have rounds := advance_dspRun_rounds (pending s) 0 (pending s).toNat { s with consumed := s.tick }
  rw [Nat.zero_add] at rounds
  have inputs : (State.executing { s with consumed := s.tick }
      (.dspRun (pending s) (pending s).toNat .timer)).inputs = [] := quiet
  refine ⟨_, execDspRun_eq s, ?_, ?_, fun v => rfl⟩
  · rw [run_of_no_inputs inputs, Function.iterate_succ_apply']
    exact congrArg Host.Outcome.next ((congrArg advance rounds).trans (advance_dspRun_finish ..))
  · exact run_busy_throughout inputs (congrArg busy rounds)

/-! ### The host registers (R32, R35, R106, R141) -/

section
variable {s : State} {rest : List Input} {off v : Word}

theorem accessOk_word (aligned : off.toNat % 4 = 0) : accessOk off .word = true := by simp [accessOk, aligned]

theorem step_read (h : s.inputs = .read off .word :: rest) (aligned : off.toNat % 4 = 0) :
    step s = .next { s with inputs := rest, hostData := hostRead off s } := by
  simp [step, h, takeInput, accessOk_word aligned, hostRead, busy]

theorem step_write (h : s.inputs = .write off .word v :: rest) (aligned : off.toNat % 4 = 0) :
    step s = hostWrite off v { s with inputs := rest } := by
  simp [step, h, takeInput, accessOk_word aligned]

theorem hostWrite_of_busy (hb : busy s = true) : hostWrite off v s = .next s := if_pos hb

/-- A CMD write of a command's word while BUSY is 0. -/
theorem hostWrite_command {i : Instr} (idle : busy s = false) (hi : decode v = .ok i) :
    hostWrite 0x00 v s = exec i { s with cmd := v } := by
  simp [hostWrite, idle, startCommand, hi]

/-- RES, RDATA, BUSY and the reserved offsets ignore a write (R106, log 8). -/
theorem hostWrite_ignored (h : 0x14 ≤ off.toNat) : hostWrite off v s = .next s := by
  unfold hostWrite
  split
  · rfl
  · split
    iterate 5 (· omega)
    rfl

/-- CMD and the reserved offsets read 0 (R32, R106). -/
theorem hostRead_reserved (h : 0x20 ≤ off.toNat) : hostRead off s = 0 := by
  unfold hostRead
  split
  iterate 7 (· omega)
  rfl

theorem zextBool_eq (b : Bool) : zextBool b = if b then 1 else 0 := by cases b <;> rfl

end

/-- Settles O4: a CMD write while BUSY is 0 starts the command that its word decodes to. -/
theorem stepRunsTheDecodedCommand : Obligations.StepRunsTheDecodedCommand := by
  constructor
  · intro s w rest i hinput idle hi
    exact (step_write hinput rfl).trans (hostWrite_command idle hi)
  · intro s nbits w i htable
    have hi : decode (BitVec.ofNat 32 (w % 2 ^ nbits)) = .ok i := by
      unfold decodeTableWord at htable
      split at htable
      · next j hj => exact hj.trans (congrArg Except.ok (Option.some.inj htable))
      · cases htable
    exact (step_write (s := s.withFetchWord nbits w) rfl rfl).trans (hostWrite_command rfl hi)

/-- Settles O6: by the offset of the access, with BUSY deciding whether a write has an effect. -/
theorem hostRegisters : Obligations.HostRegisters := by
  intro s rest off v aligned
  refine ⟨fun hread => ?_, fun hwrite => ⟨fun hb => ?_, fun idle => ?_⟩, rfl, rfl, rfl, rfl, rfl⟩
  · rw [step_read hread aligned]
    refine ⟨?_, ?_, ?_, ?_, ?_, ?_, ?_, ?_, fun reserved => by rw [hostRead_reserved reserved]⟩
    all_goals
      intro register
      simp only [hostRead, register, zextBool_eq, zext]
  · rw [step_write hwrite aligned, hostWrite_of_busy (s := { s with inputs := rest }) hb]
  · have notBusy : busy { s with inputs := rest } = false := idle
    rw [step_write hwrite aligned]
    refine ⟨?_, ?_, ?_, ?_, hostWrite_ignored⟩
    all_goals
      intro register
      simp [hostWrite, notBusy, register]

/-- Settles O14: each bank is made of copies of its reset value, written out. -/
theorem resetValues : Obligations.ResetValues := fun _ =>
  ⟨rfl, rfl, rfl, rfl, rfl, rfl, rfl, rfl, rfl, rfl, rfl, rfl, rfl, fun _ => rfl,
    rfl, rfl, rfl, rfl, rfl, rfl, rfl, rfl⟩

/-! ### Field reads (R49, R149) -/

/-- A field read over a table of selectors and values. -/
theorem finishField_listed {s : State} {n : Nat} {f : Option Word} {table : List (Nat × Word)}
    (fields : ∀ c ∈ table, n = c.1 → f = some c.2) (k : Nat) (v : Word) (listed : (k, v) ∈ table) (selected : n = k) :
    (.next (finishField f s) : Answer) = .next { s with rdata := v, res := .ok, active := none } := by
  rw [fields (k, v) listed selected]
  rfl

theorem finishField_unlisted {s : State} {f : Option Word} (unlisted : f = none) :
    (.next (finishField f s) : Answer) = .next { s with res := .invalidArgument, active := none } := by
  rw [unlisted]
  rfl

section
variable {s : State} {j sel : Byte}

theorem exec_tmrRdf {x : Timer} (hx : s.timers[j.toNat]? = some x) :
    exec (.tmrRdf j sel) s = .next (finishField (timerField x sel) s) :=
  congrArg Host.Outcome.next (onTimer_of_some hx _)

theorem exec_swRdf {x : Switch} (hx : s.switches[j.toNat]? = some x) :
    exec (.swRdf j sel) s = .next (finishField (switchField x sel) s) :=
  congrArg Host.Outcome.next (onSwitch_of_some hx _)

theorem exec_adcRdf {x : Channel} (hx : s.channels[j.toNat]? = some x) :
    exec (.adcRdf j sel) s = .next (finishField (channelField x sel) s) :=
  congrArg Host.Outcome.next (onChannel_of_some hx _)

theorem exec_pdsRdf {x : Pulse} (hx : s.pulses[j.toNat]? = some x) :
    exec (.pdsRdf j sel) s = .next (finishField (pulseField x sel) s) :=
  congrArg Host.Outcome.next (onPulse_of_some hx _)

/-! #### Selectors beyond the tables -/

theorem timerField_unlisted (x : Timer) (h : 6 ≤ sel.toNat) : timerField x sel = none := by
  unfold timerField
  split
  iterate 6 (· omega)
  rfl

theorem switchField_unlisted (x : Switch) (h : 14 ≤ sel.toNat) : switchField x sel = none := by
  unfold switchField
  split
  iterate 14 (· omega)
  rfl

theorem channelField_unlisted (x : Channel) (h : 16 ≤ sel.toNat) : channelField x sel = none := by
  unfold channelField
  split
  iterate 16 (· omega)
  rfl

theorem pulseField_unlisted (x : Pulse) (h : 13 ≤ sel.toNat) : pulseField x sel = none := by
  unfold pulseField
  split
  iterate 13 (· omega)
  rfl

end

/-- Settles O29: selector by selector of the two tables. -/
theorem fieldReadsOfTimersSwitches : Obligations.FieldReadsOfTimersSwitches := by
  intro s j sel
  refine ⟨fun x hx => ?_, fun absent => ?_, fun x hx => ?_, fun absent => ?_⟩
  · rw [exec_tmrRdf hx]
    refine ⟨finishField_listed ?_, fun h => finishField_unlisted (timerField_unlisted x h)⟩
    simp only [List.forall_mem_cons, List.not_mem_nil, IsEmpty.forall_iff, implies_true, and_true]
    and_intros
    all_goals
      intro h
      simp only [timerField, h, zext]
    · cases x.state <;> rfl
    · cases x.mode <;> rfl
  · exact congrArg Host.Outcome.next (onTimer_of_none (List.getElem?_eq_none absent) _)
  · rw [exec_swRdf hx]
    refine ⟨finishField_listed ?_, fun h => finishField_unlisted (switchField_unlisted x h)⟩
    simp only [List.forall_mem_cons, List.not_mem_nil, IsEmpty.forall_iff, implies_true, and_true]
    and_intros
    all_goals
      intro h
      simp only [switchField, h, zext, zextBool_eq]
    · cases x.mode <;> rfl
    · cases x.state <;> rfl
  · exact congrArg Host.Outcome.next (onSwitch_of_none (List.getElem?_eq_none absent) _)

/-- Settles O30: selector by selector of the two tables. -/
theorem fieldReadsOfChannelsGenerators : Obligations.FieldReadsOfChannelsGenerators := by
  intro s j sel
  refine ⟨fun x hx => ?_, fun absent => ?_, fun x hx => ?_, fun absent => ?_⟩
  · rw [exec_adcRdf hx]
    refine ⟨finishField_listed ?_, fun h => finishField_unlisted (channelField_unlisted x h)⟩
    simp only [List.forall_mem_cons, List.not_mem_nil, IsEmpty.forall_iff, implies_true, and_true]
    and_intros
    all_goals
      intro h
      simp only [channelField, h, zext, zextBool_eq]
    · rfl
  · exact congrArg Host.Outcome.next (onChannel_of_none (List.getElem?_eq_none absent) _)
  · rw [exec_pdsRdf hx]
    refine ⟨finishField_listed ?_, fun h => finishField_unlisted (pulseField_unlisted x h)⟩
    simp only [List.forall_mem_cons, List.not_mem_nil, IsEmpty.forall_iff, implies_true, and_true]
    and_intros
    all_goals
      intro h
      simp only [pulseField, h, zext, zextBool_eq]
    · cases x.mode <;> rfl
    · cases x.state <;> rfl
    · cases x.stage <;> rfl
  · exact congrArg Host.Outcome.next (onPulse_of_none (List.getElem?_eq_none absent) _)

end Sys2Proof.Machine

/-! ## The memory (20_memory.md): legal host accesses, the bytes a command or an interrupt stores, reads of QMEM -/

namespace Sys2Proof.Machine

/-! ### The RX interrupt (R112, R210) -/

/-- All that the RxIRQ step can do to the state: nothing, or the byte goes into the put slot of Q[2p] and the put cursor
and the count move. -/
theorem rxIrq_eq_or (p : Nat) (b : Byte) (s : State) :
    rxIrq p b s = s ∨
    ∃ x, s.queues[rxQueue p]? = some x ∧ rxIrq p b s =
      setQueue (rxQueue p) { x with put := nextSlot x.put x.cap, count := x.count + 1 }
        (memWrite (slotAddr x x.put) b s) := by
  rcases rxIrq_cases p b s with same | ⟨_, _, t, -, -, -, ht, result⟩
  · exact .inl same
  · obtain ⟨x, hx, -, rfl⟩ := queuePut_eq_some.1 ht
    exact .inr ⟨x, hx, result⟩

/-! ### Host accesses (R108, R572) -/

theorem step_of_input {s : State} {i : Input} {rest : List Input} (h : s.inputs = i :: rest) :
    step s = takeInput i s { s with inputs := rest } := by
  simp only [step, h]

theorem accessOk_eq_false {off : Word} {width : AccessWidth} (illegal : width ≠ .word ∨ off.toNat % 4 ≠ 0) :
    accessOk off width = false := by
  rcases illegal with sub | misaligned
  · simp [accessOk, sub]
  · simp [accessOk, misaligned]

/-- Settles O7: the check of the access comes before anything the access does. -/
theorem illegalHostAccessStops : Obligations.IllegalHostAccessStops := by
  intro s rest off v width illegal
  have refused : ¬ accessOk off width = true := by simp [accessOk_eq_false illegal]
  exact ⟨fun hinput => (step_of_input hinput).trans (if_neg refused),
    fun hinput => (step_of_input hinput).trans (if_neg refused)⟩

/-! #### The inputs still to come

No command touches them, and every step only takes the first of them off the list, so a run with legal accesses keeps
meeting legal accesses. -/

theorem exec_inputs (i : Instr) (s : State) : ∃ t, exec i s = .next t ∧ t.inputs = s.inputs := by
  obtain ⟨t, ht, frame, -⟩ := exec_framed i s
  have kept : (mayWrite i s t).inputs = s.inputs := by cases i <;> rfl
  exact ⟨t, ht, (congrArg State.inputs frame).trans kept⟩

theorem startCommand_inputs (w : Word) (s : State) : ∃ t, startCommand w s = .next t ∧ t.inputs = s.inputs := by
  unfold startCommand
  split
  · next i _ => exact exec_inputs i { s with cmd := w }
  · exact ⟨_, rfl, rfl⟩

theorem hostWrite_inputs (off v : Word) (s : State) : ∃ t, hostWrite off v s = .next t ∧ t.inputs = s.inputs := by
  unfold hostWrite
  split
  · exact ⟨s, rfl, rfl⟩
  · split
    · exact startCommand_inputs v s
    all_goals exact ⟨_, rfl, rfl⟩

@[simp] theorem rxIrq_inputs (p : Nat) (b : Byte) (s : State) : (rxIrq p b s).inputs = s.inputs := by
  rcases rxIrq_eq_or p b s with same | ⟨x, -, stored⟩
  · rw [same]
  · rw [stored]
    rfl

theorem SafeInputs.congr {s t : State} (h : SafeInputs s) (same : t.inputs = s.inputs) : SafeInputs t := by
  unfold SafeInputs
  rwa [same]

/-- A legal input always has a next state, and the inputs after it are legal when those around it are. -/
theorem takeInput_safe {i : Input} {s₀ s : State} (ok : inputOk i = true) (h₀ : SafeInputs s₀) (h : SafeInputs s) :
    ∃ t, takeInput i s₀ s = .next t ∧ SafeInputs t := by
  cases i with
  | write off width v =>
    obtain ⟨t, ht, same⟩ := hostWrite_inputs off v s
    exact ⟨t, (if_pos ok).trans ht, h.congr same⟩
  | read off width => exact ⟨_, if_pos ok, h⟩
  | tick => exact ⟨_, rfl, h⟩
  | rx p b => exact ⟨_, rfl, h.congr (rxIrq_inputs p.toNat b s)⟩
  | pin p levels => exact ⟨_, rfl, h⟩
  | adc ch values => exact ⟨_, rfl, h⟩
  | txReady p answers => exact ⟨_, rfl, h⟩
  | reset => exact ⟨_, rfl, h⟩
  | run => exact ⟨_, rfl, h.congr (advance_inputs s)⟩
  | wait =>
    simp only [takeInput]
    split
    · exact ⟨_, rfl, h₀.congr (advance_inputs s₀)⟩
    · exact ⟨_, rfl, h⟩

theorem step_safe {s : State} (h : SafeInputs s) : ∃ t, step s = .next t ∧ SafeInputs t := by
  cases hinputs : s.inputs with
  | nil => exact ⟨_, step_of_no_inputs hinputs, h.congr (advance_inputs s)⟩
  | cons i rest =>
    have legal : ∀ j ∈ i :: rest, inputOk j = true := hinputs ▸ h
    obtain ⟨ok, restOk⟩ := List.forall_mem_cons.1 legal
    rw [step_of_input hinputs]
    exact takeInput_safe ok h restOk

/-- A predicate under which a step always answers, and which the answer meets again, makes every run safe. -/
theorem safeFrom_of_invariant {P : State → Prop} (answers : ∀ s, P s → ∃ t, step s = .next t ∧ P t) {s : State}
    (h : P s) : SafeFrom s := by
  intro k
  induction k generalizing s with
  | zero => exact ⟨s, rfl⟩
  | succ k ih =>
    obtain ⟨t, ht, after⟩ := answers s h
    have one : Sys2Proof.core.run (k + 1) s = Sys2Proof.core.run k t := by
      simp [Host.Core.run, Sys2Proof.core, ht]
    rw [one]
    exact ih after

/-- Settles O17: with legal inputs a step always answers, and the inputs it leaves are legal. -/
theorem alignedRunsNeverStop : Obligations.AlignedRunsNeverStop :=
  fun _ => safeFrom_of_invariant fun _ => step_safe

/-! ### The bytes of QMEM (R104, R112, R203, R221) -/

theorem State.byteAt_congr {s t : State} (same : t.qmem = s.qmem) (a : Nat) : t.byteAt a = s.byteAt a :=
  congrArg (Table.lookup a) same

theorem memWrite_byteAt_same (a : Nat) (b : Byte) (s : State) : (memWrite a b s).byteAt a = some b :=
  Table.lookup_insert_same a b s.qmem

theorem memWrite_byteAt_ne {a c : Nat} (other : c ≠ a) (b : Byte) (s : State) :
    (memWrite a b s).byteAt c = s.byteAt c :=
  Table.lookup_insert_ne other b s.qmem

/-- A host put stores to the put slot or, on a full queue, nowhere. -/
theorem hostPut_byteAt {q a : Nat} {b : Byte} {s : State} {x : Queue} (hx : s.queues[q]? = some x)
    (other : a ≠ slotAddr x x.put) : (hostPut q b s).byteAt a = s.byteAt a := by
  rw [hostPut_eq hx]
  split
  · rfl
  · exact Table.lookup_insert_ne other b s.qmem

/-- A put command on queue `q`, behind QCheck: an absent queue is refused, and another byte than the one in the put slot
is never changed. -/
theorem onQueue_hostPut_byteAt (q : Nat) (b : Byte) (s : State) :
    (s.queues[q]? = none → ∀ a, (onQueue q s fun _ => hostPut q b s).byteAt a = s.byteAt a) ∧
    ∀ x, s.queues[q]? = some x → ∀ a, a ≠ slotAddr x x.put →
      (onQueue q s fun _ => hostPut q b s).byteAt a = s.byteAt a := by
  refine ⟨fun absent a => ?_, fun x hx a other => ?_⟩
  · rw [onQueue_of_none absent]
    rfl
  · exact onQueue_induct (P := fun t => t.byteAt a = s.byteAt a) rfl fun _ _ _ => hostPut_byteAt hx other

/-- Of all commands only three have QMEM in their row. -/
theorem mayWrite_qmem {i : Instr} (notPut : ∀ q b, i ≠ .qPut q b) (notSerWrite : ∀ p b, i ≠ .serWrite p b)
    (notQmWr : ∀ b, i ≠ .qmWr b) (s t : State) : (mayWrite i s t).qmem = s.qmem := by
  cases i with
  | qPut q b => exact absurd rfl (notPut q b)
  | serWrite p b => exact absurd rfl (notSerWrite p b)
  | qmWr b => exact absurd rfl (notQmWr b)
  | _ => rfl

/-- Settles O19: the frame of O18 for the commands that store nothing, and the address of the store for the three that
do. -/
theorem storesTouchOneByte : Obligations.StoresTouchOneByte := by
  intro i s t hexec
  refine ⟨fun notPut notSerWrite notQmWr => ?_, ?_, ?_, ?_⟩
  · obtain ⟨frame, -⟩ := frameOfEveryCommand i s t hexec
    exact State.byteAt_congr ((congrArg State.qmem frame).trans (mayWrite_qmem notPut notSerWrite notQmWr s t))
  · rintro q b rfl
    cases hexec
    exact onQueue_hostPut_byteAt q.toNat b s
  · rintro p b rfl
    cases hexec
    obtain ⟨absent, present⟩ := onQueue_hostPut_byteAt (txQueue p.toNat) b s
    exact ⟨fun hq a => onPort_induct (P := fun t => t.byteAt a = s.byteAt a) rfl fun _ _ => absent hq a,
      fun x hx a other => onPort_induct (P := fun t => t.byteAt a = s.byteAt a) rfl fun _ _ => present x hx a other⟩
  · rintro b rfl a other
    cases hexec
    exact ite_induct (P := fun t => t.byteAt a = s.byteAt a) (fun _ => rfl) fun _ => memWrite_byteAt_ne other b s

/-! ### The interrupt context (R112) -/

/-- Settles O10: a TICK event has one result, an RX event the two of `rxIrq_eq_or`. -/
theorem interruptFrame : Obligations.InterruptFrame := by
  intro s t rest hstep
  refine ⟨fun hinput => ?_, fun p b hinput => ?_⟩
  · cases (step_of_input hinput).symm.trans hstep
    rfl
  · cases (step_of_input hinput).symm.trans hstep
    rcases rxIrq_eq_or p.toNat b { s with inputs := rest } with same | ⟨y, hy, stored⟩
    · rw [same]
      exact ⟨rfl, fun _ _ => rfl, fun _ _ => rfl, fun x hx => ⟨⟨x.put, x.count, hx⟩, fun _ _ => rfl⟩⟩
    · rw [stored]
      refine ⟨rfl, fun j other => List.getElem?_set_ne other.symm, fun absent => ?_,
        fun x hx => ⟨?_, fun a other => ?_⟩⟩
      · cases absent.symm.trans hy
      · cases hx.symm.trans hy
        exact ⟨_, _, List.getElem?_set_self (List.getElem?_eq_some_iff.1 hx).1⟩
      · cases hx.symm.trans hy
        exact memWrite_byteAt_ne other b s

/-! ### Reads of QMEM by the host (R105, R207, R220) -/

/-- What a read of QMEM answers: the byte where one has been written, and then nothing is drawn. -/
theorem memRead_of_byteAt {a : Nat} {w : Byte} {s : State} (written : s.byteAt a = some w) :
    (memRead a s).1 = w ∧ (memRead a s).2.env = s.env := by
  rw [memRead_of_byte written]
  exact ⟨rfl, rfl⟩

section
variable {s : State} {q : Nat} {x : Queue}

theorem onQueue_of_uninitialised (hx : s.queues[q]? = some x) (zero : x.cap = 0) (k : Queue → State) :
    onQueue q s k = raise .invalidArgument s := by
  rw [onQueue_of_some hx, if_pos zero]

theorem onQueue_of_initialised (hx : s.queues[q]? = some x) (initialised : x.cap ≠ 0) (k : Queue → State) :
    onQueue q s k = k x := by
  rw [onQueue_of_some hx, if_neg initialised]

theorem hostGet_of_empty (hx : s.queues[q]? = some x) (empty : x.count = 0) :
    hostGet q s = { s with queues := s.queues.set q { x with lerr := .queueEmpty }
                           res := .queueEmpty, active := none } := by
  rw [hostGet_eq hx, if_pos empty]

/-- A get that takes a byte: the one written to the get slot, if any has been (R105). -/
theorem hostGet_of_held (hx : s.queues[q]? = some x) (held : x.count ≠ 0) :
    ∃ (v : Byte) (e : Env), (∀ w, s.byteAt (slotAddr x x.get) = some w → v = w ∧ e = s.env) ∧
      hostGet q s = { s with
        queues := s.queues.set q { x with get := nextSlot x.get x.cap, count := x.count - 1, lerr := .ok }
        rdata := zext v, env := e, res := .ok, active := none } :=
  ⟨_, _, fun _ => memRead_of_byteAt, by rw [hostGet_eq hx, if_neg held]⟩

end

/-- Settles O33: QCheck, then the two results of a host get. -/
theorem qGetResult : Obligations.QGetResult := by
  intro s q
  refine ⟨fun absent => ?_, fun x hx => ⟨fun zero => ?_, fun initialised empty => ?_, fun initialised held => ?_⟩⟩
  · exact congrArg Host.Outcome.next (onQueue_of_none (List.getElem?_eq_none absent) _)
  · exact congrArg Host.Outcome.next (onQueue_of_uninitialised hx zero _)
  · exact congrArg Host.Outcome.next ((onQueue_of_initialised hx initialised _).trans (hostGet_of_empty hx empty))
  · obtain ⟨v, e, written, taken⟩ := hostGet_of_held hx held
    exact ⟨v, e, written, congrArg Host.Outcome.next ((onQueue_of_initialised hx initialised _).trans taken)⟩

/-- Settles O35: the address check, then the read or the store at ARG0[15:0]. -/
theorem directQmemAccess : Obligations.DirectQmemAccess := by
  intro s b a
  refine ⟨fun outside => ⟨?_, ?_⟩, fun inside => ⟨?_, ?_⟩⟩
  · exact congrArg Host.Outcome.next (if_pos outside)
  · exact congrArg Host.Outcome.next (if_pos outside)
  · refine ⟨(memRead a s).1, (memRead a s).2.env, fun w => memRead_of_byteAt, ?_⟩
    have read : exec .qmRd s = .next (finishData (zext (memRead a s).1) (memRead a s).2) :=
      congrArg Host.Outcome.next (if_neg (Nat.not_le.2 inside))
    rw [read, memRead_state]
    rfl
  · have stored : exec (.qmWr b) s = .next (finish .ok (memWrite a b s)) :=
      congrArg Host.Outcome.next (if_neg (Nat.not_le.2 inside))
    exact ⟨_, stored, rfl, memWrite_byteAt_same a b s, fun c other => memWrite_byteAt_ne other b s⟩

end Sys2Proof.Machine

/-! ## The encoding (30_encoding.md): the command word, its operands, the reserved opcodes and the field reads -/

namespace Sys2Proof

/-! ### The fields of a command word (R141) -/

/-- A word is made of its three fields. -/
theorem cmdWord_fields (w : Word) : cmdWord (opcOf w) (idOf w) (immOf w) = w := by
  have high : opcOf w ++ idOf w = w.extractLsb' 16 16 := BitVec.extractLsb'_append_extractLsb'_eq_extractLsb' rfl
  rw [cmdWord, high]
  exact BitVec.extractLsb'_append_extractLsb'

theorem cmdWord_inj {opc opc' id id' : Byte} {imm imm' : Half} :
    cmdWord opc id imm = cmdWord opc' id' imm' ↔ opc = opc' ∧ id = id' ∧ imm = imm' := by
  constructor
  · intro h
    exact ⟨by simpa using congrArg opcOf h, by simpa using congrArg idOf h, by simpa using congrArg immOf h⟩
  · rintro ⟨rfl, rfl, rfl⟩
    rfl

theorem byteImm_inj {b b' : Byte} : byteImm b = byteImm b' ↔ b = b' :=
  ⟨fun h => by simpa using congrArg (fun imm => immByte (cmdWord 0 0 imm)) h, congrArg byteImm⟩

theorem flagImm_inj {f f' : Bool} : flagImm f = flagImm f' ↔ f = f' :=
  ⟨fun h => by simpa using congrArg (fun imm => immFlag (cmdWord 0 0 imm)) h, congrArg flagImm⟩

/-- Masking works field by field. -/
theorem cmdWord_and (opc opc' id id' : Byte) (imm imm' : Half) :
    cmdWord opc id imm &&& cmdWord opc' id' imm' = cmdWord (opc &&& opc') (id &&& id') (imm &&& imm') :=
  BitVec.and_append.trans (congrArg (· ++ _) BitVec.and_append)

theorem and_cmdWord_eq_iff {w : Word} {opcMask opc idMask id : Byte} {immMask imm : Half} :
    w &&& cmdWord opcMask idMask immMask = cmdWord opc id imm ↔
      opcOf w &&& opcMask = opc ∧ idOf w &&& idMask = id ∧ immOf w &&& immMask = imm := by
  rw [← cmdWord_inj, ← cmdWord_and, cmdWord_fields]

/-- IMM[7:0] is the byte the decoder takes. -/
theorem immOf_and_byte (w : Word) : immOf w &&& 0x00FF = byteImm (immByte w) := by
  have halves : w.extractLsb' 8 8 ++ immByte w = immOf w := BitVec.extractLsb'_append_extractLsb'_eq_extractLsb' rfl
  have mask : (0x00FF : Half) = 0#8 ++ BitVec.allOnes 8 := rfl
  rw [← halves, mask, BitVec.and_append, BitVec.and_zero, BitVec.and_allOnes]
  rfl

/-- IMM[0] is the flag the decoder takes. -/
theorem immOf_and_flag (w : Word) : immOf w &&& 0x0001 = flagImm (immFlag w) := by
  have bit : (immOf w).getLsbD 0 = immFlag w := by simp [immOf, immFlag]
  have mask : immOf w &&& 0x0001 = ((BitVec.ofBool ((immOf w).getLsbD 0)).setWidth 16 : Half) :=
    BitVec.and_one_eq_setWidth_ofBool_getLsbD
  rw [mask, bit]
  cases immFlag w <;> rfl

theorem modeImm_eq (m : TimerMode) : modeImm m = flagImm (decide (m = .timeout)) := by cases m <;> rfl

theorem modeOf_eq_iff {w : Word} {m : TimerMode} : modeOf w = m ↔ immFlag w = decide (m = .timeout) := by
  unfold modeOf
  cases m <;> cases immFlag w <;> decide

/-! ### The bits a command reads (R143, R145, R150)

One rule for each of the six forms of `readMask`: the bits it selects are those of a word with the same fields. -/

section
variable {w : Word} {opc id b : Byte} {imm : Half} {f : Bool}

@[simp] theorem and_opcMask : w &&& 0xFF000000#32 = cmdWord opc 0#8 0#16 ↔ opcOf w = opc := by
  have mask : 0xFF000000#32 = cmdWord (.allOnes 8) 0#8 0#16 := rfl
  simp only [mask, and_cmdWord_eq_iff, BitVec.and_allOnes, BitVec.and_zero, and_true]

@[simp] theorem and_byteMask :
    w &&& 0xFF0000FF#32 = cmdWord opc 0#8 (byteImm b) ↔ opcOf w = opc ∧ immByte w = b := by
  have mask : 0xFF0000FF#32 = cmdWord (.allOnes 8) 0#8 0x00FF := rfl
  simp only [mask, and_cmdWord_eq_iff, BitVec.and_allOnes, BitVec.and_zero, immOf_and_byte, byteImm_inj, true_and]

@[simp] theorem and_idMask : w &&& 0xFFFF0000#32 = cmdWord opc id 0#16 ↔ opcOf w = opc ∧ idOf w = id := by
  have mask : 0xFFFF0000#32 = cmdWord (.allOnes 8) (.allOnes 8) 0#16 := rfl
  simp only [mask, and_cmdWord_eq_iff, BitVec.and_allOnes, BitVec.and_zero, and_true]

@[simp] theorem and_idByteMask :
    w &&& 0xFFFF00FF#32 = cmdWord opc id (byteImm b) ↔ opcOf w = opc ∧ idOf w = id ∧ immByte w = b := by
  have mask : 0xFFFF00FF#32 = cmdWord (.allOnes 8) (.allOnes 8) 0x00FF := rfl
  simp only [mask, and_cmdWord_eq_iff, BitVec.and_allOnes, immOf_and_byte, byteImm_inj]

@[simp] theorem and_idFlagMask :
    w &&& 0xFFFF0001#32 = cmdWord opc id (flagImm f) ↔ opcOf w = opc ∧ idOf w = id ∧ immFlag w = f := by
  have mask : 0xFFFF0001#32 = cmdWord (.allOnes 8) (.allOnes 8) 0x0001 := rfl
  simp only [mask, and_cmdWord_eq_iff, BitVec.and_allOnes, immOf_and_flag, flagImm_inj]

@[simp] theorem and_idModeMask {m : TimerMode} :
    w &&& 0xFFFF0001#32 = cmdWord opc id (modeImm m) ↔ opcOf w = opc ∧ idOf w = id ∧ modeOf w = m := by
  rw [modeImm_eq, and_idFlagMask, modeOf_eq_iff]

@[simp] theorem and_fullMask :
    w &&& 0xFFFFFFFF#32 = cmdWord opc id imm ↔ opcOf w = opc ∧ idOf w = id ∧ immOf w = imm := by
  have mask : 0xFFFFFFFF#32 = cmdWord (.allOnes 8) (.allOnes 8) (.allOnes 16) := rfl
  simp only [mask, and_cmdWord_eq_iff, BitVec.and_allOnes]

end

theorem opcOf_eq_of_toNat {w : Word} {n : Nat} (h : (opcOf w).toNat = n) : opcOf w = BitVec.ofNat 8 n := by
  rw [← h, BitVec.ofNat_toNat, BitVec.setWidth_eq]

/-- A word that decodes to a command carries its encoding: by the arms of the decoder. -/
theorem encode_of_decode {w : Word} {i : Instr} (h : decode w = .ok i) : w &&& readMask i = encode i := by
  unfold decode at h
  split at h
  all_goals cases h
  all_goals
    next opc => simp [readMask, encode, opcOf_eq_of_toNat opc]

/-- A word that carries a command's encoding decodes to it: by the command. -/
theorem decode_of_encode {w : Word} {i : Instr} : w &&& readMask i = encode i → decode w = .ok i := by
  cases i
  all_goals simp +contextual [readMask, encode, decode]

theorem decode_eq_ok_iff {w : Word} {i : Instr} : decode w = .ok i ↔ w &&& readMask i = encode i :=
  ⟨encode_of_decode, decode_of_encode⟩

/-- The encoder sets no bit that the command does not read (R150). -/
theorem encode_and_readMask (i : Instr) : encode i &&& readMask i = encode i := by
  cases i
  all_goals simp [readMask, encode]

/-- Settles O1: the encoder sets only bits that the command reads, so its word is one of those that decode to it. -/
theorem decodeAndEncodeAgree : Obligations.DecodeAndEncodeAgree := fun i =>
  ⟨decode_eq_ok_iff.2 (encode_and_readMask i), fun _ => decode_eq_ok_iff⟩

/-- Settles O3: each word carries the encoding of its command, and what else it holds is not read. -/
theorem listedWordsDecode : Obligations.ListedWordsDecode := by
  unfold Obligations.ListedWordsDecode
  and_intros
  all_goals exact decode_of_encode rfl

/-! ### Reserved opcodes (R147) -/

/-- The list of R147, as intervals of OPC. -/
def ReservedOpc (n : Nat) : Prop :=
  (0x07 ≤ n ∧ n ≤ 0x0F) ∨ (0x18 ≤ n ∧ n ≤ 0x1F) ∨ (0x29 ≤ n ∧ n ≤ 0x2E) ∨ (0x3B ≤ n ∧ n ≤ 0x3E) ∨
    (0x45 ≤ n ∧ n ≤ 0x4E) ∨ (0x54 ≤ n ∧ n ≤ 0x5E) ∨ n = 0x6E ∨ 0x70 ≤ n

/-- The decoder refuses exactly the opcodes of the list: each of its arms has an OPC outside the list, and what no arm
takes is in it. -/
theorem decode_eq_reserved_iff (w : Word) :
    decode w = .error (.reservedOpcode (opcOf w)) ↔ ReservedOpc (opcOf w).toNat := by
  unfold decode ReservedOpc
  split
  case h_64 => exact iff_of_true rfl (by grind)
  all_goals exact iff_of_false nofun (by omega)

end Sys2Proof

namespace Sys2Proof.Machine

/-- A CMD write of a word that is no command, while BUSY is 0. -/
theorem hostWrite_reserved {s : State} {w : Word} {e : DecodeError} (idle : busy s = false) (he : decode w = .error e) :
    hostWrite 0x00 w s = .next (raise .genericError { s with cmd := w }) := by
  simp [hostWrite, idle, startCommand, he, reservedCommand]

/-- Settles O2: a word with a listed OPC is refused by the decoder, and a refused word raises GenericError. -/
theorem reservedOpcodes : Obligations.ReservedOpcodes := by
  intro w
  refine ⟨decode_eq_reserved_iff w, fun s rest hinput idle reserved => ⟨w, ?_⟩⟩
  have refused := (decode_eq_reserved_iff w).2 reserved
  exact (step_write hinput rfl).trans (hostWrite_reserved idle refused)

/-! ### Steps that are no register access (R153, R527) -/

/-- Settles O5: by the input taken. -/
theorem stepWithoutAnAccess : Obligations.StepWithoutAnAccess := by
  intro s rest
  refine ⟨step_of_no_inputs, step_of_input, fun hinput executing => ?_, fun hinput idle => ?_, fun ended => ?_,
    fun p ls hinput => ?_, fun c vs hinput => ?_, fun p bs hinput => ?_⟩
  · exact (step_of_input hinput).trans (if_pos executing)
  · exact (step_of_input hinput).trans (if_neg (by simp [idle]))
  · simp [advance, ended]
  · exact ⟨_, step_of_input hinput, Table.lookup_insert_same ..⟩
  · exact ⟨_, step_of_input hinput, Table.lookup_insert_same ..⟩
  · exact ⟨_, step_of_input hinput, Table.lookup_insert_same ..⟩

/-! ### The packed clock (R144, R532) -/

/-- The fields of the packed clock do not overlap, so packing is addition. -/
theorem clkPack_eq {m sec ms : Nat} (h : Nat) (hm : m < 2 ^ 6) (hsec : sec < 2 ^ 6) (hms : ms < 2 ^ 10) :
    clkPack h m sec ms = BitVec.ofNat 32 (h * 2 ^ 22 + m * 2 ^ 16 + sec * 2 ^ 10 + ms) := by
  have low : sec <<< 10 ||| ms = sec * 2 ^ 10 + ms := by
    rw [← Nat.shiftLeft_add_eq_or_of_lt hms, Nat.shiftLeft_eq]
  have mid : m <<< 16 ||| (sec * 2 ^ 10 + ms) = m * 2 ^ 16 + (sec * 2 ^ 10 + ms) := by
    rw [← Nat.shiftLeft_add_eq_or_of_lt (by omega), Nat.shiftLeft_eq]
  have all : h <<< 22 ||| (m * 2 ^ 16 + (sec * 2 ^ 10 + ms)) = h * 2 ^ 22 + (m * 2 ^ 16 + (sec * 2 ^ 10 + ms)) := by
    rw [← Nat.shiftLeft_add_eq_or_of_lt (by omega), Nat.shiftLeft_eq]
  have field (v k : Nat) : BitVec.ofNat 32 v <<< k = BitVec.ofNat 32 (v <<< k) :=
    BitVec.eq_of_toNat_eq (by simp [Nat.shiftLeft_eq])
  simp only [clkPack, field, ← BitVec.ofNat_or, Nat.or_assoc, low, mid, all, Nat.add_assoc]

/-- Settles O23: the range check of CLK_SET, and the packing of CLK_GET by addition. -/
theorem clockCommands : Obligations.ClockCommands := by
  intro s
  refine ⟨fun outside => ?_, fun hh hm hsec hms => ?_, ?_⟩
  · exact congrArg Host.Outcome.next (if_pos outside)
  · have inside : ¬(23 < clkHour s.arg0 ∨ 59 < clkMin s.arg0 ∨ 59 < clkSec s.arg0 ∨ 999 < clkMs s.arg0) := by
      simp only [clkHour, clkMin, clkSec, clkMs]
      omega
    exact congrArg Host.Outcome.next (if_neg inside)
  · have get : exec .clkGet s = .next (finishData (clkPack (clockMs s / 3600000) (clockMs s / 60000 % 60)
      (clockMs s / 1000 % 60) (clockMs s % 1000)) s) := rfl
    rw [get, clkPack_eq _ (by omega) (by omega) (by omega)]
    rfl

/-! ### Field reads (R149, R211, R269, R528) -/

section
variable {s : State} {j sel : Byte}

theorem exec_qRdf {x : Queue} (hx : s.queues[j.toNat]? = some x) :
    exec (.qRdf j sel) s = .next (finishField (queueField x sel) s) :=
  congrArg Host.Outcome.next (onQueueSlot_of_some hx _)

theorem exec_serRdf {x : Port} (hx : s.ports[j.toNat]? = some x) :
    exec (.serRdf j sel) s = .next (finishField (portField x sel) s) :=
  congrArg Host.Outcome.next (onPort_of_some hx _)

theorem sysField_unlisted (s : State) (h : 5 ≤ sel.toNat) : sysField s sel = none := by
  unfold sysField
  split
  iterate 5 (· omega)
  rfl

theorem queueField_unlisted (x : Queue) (h : 6 ≤ sel.toNat) : queueField x sel = none := by
  unfold queueField
  split
  iterate 6 (· omega)
  rfl

theorem portField_unlisted (x : Port) (h : 8 ≤ sel.toNat) : portField x sel = none := by
  unfold portField
  split
  iterate 8 (· omega)
  rfl

end

/-- Settles O28: selector by selector of the three tables. -/
theorem fieldReadsOfSystemQueuesPorts : Obligations.FieldReadsOfSystemQueuesPorts := by
  intro s j sel
  refine ⟨finishField_listed ?_, fun h => finishField_unlisted (sysField_unlisted s h), fun x hx => ?_,
    fun absent => ?_, fun x hx => ?_, fun absent => ?_⟩
  · simp only [List.forall_mem_cons, List.not_mem_nil, IsEmpty.forall_iff, implies_true, and_true]
    and_intros
    all_goals
      intro h
      simp only [sysField, h, pending]
  · rw [exec_qRdf hx]
    refine ⟨finishField_listed ?_, fun h => finishField_unlisted (queueField_unlisted x h)⟩
    simp only [List.forall_mem_cons, List.not_mem_nil, IsEmpty.forall_iff, implies_true, and_true]
    and_intros
    all_goals
      intro h
      simp only [queueField, h, zext]
  · exact congrArg Host.Outcome.next (onQueueSlot_of_none (List.getElem?_eq_none absent) _)
  · rw [exec_serRdf hx]
    refine ⟨finishField_listed ?_, fun h => finishField_unlisted (portField_unlisted x h)⟩
    simp only [List.forall_mem_cons, List.not_mem_nil, IsEmpty.forall_iff, implies_true, and_true]
    and_intros
    all_goals
      intro h
      simp only [portField, h, zext, zextBool_eq]
    · cases x.lstate <;> rfl
  · exact congrArg Host.Outcome.next (onPort_of_none (List.getElem?_eq_none absent) _)

end Sys2Proof.Machine

/-! ## Ring queues (40_ring_queue.md): the queue commands, the RX interrupt, serial reads and writes, the FIFO law -/

namespace Sys2Proof.Machine

/-! ### Host puts and their checks (R201, R203, R204, R251) -/

section
variable {s : State} {q p : Nat} {b : Byte} {x : Queue}

theorem hostPut_of_full (hx : s.queues[q]? = some x) (full : x.count = x.cap) :
    hostPut q b s = { s with queues := s.queues.set q { x with lerr := .queueFull }
                             res := .queueFull, active := none } := by
  rw [hostPut_eq hx, if_pos full]

theorem hostPut_of_space (hx : s.queues[q]? = some x) (space : x.count ≠ x.cap) :
    hostPut q b s = { s with
      qmem := Table.insert (slotAddr x x.put) b s.qmem
      queues := s.queues.set q { x with put := nextSlot x.put x.cap, count := x.count + 1, lerr := .ok }
      res := .ok, active := none } := by
  rw [hostPut_eq hx, if_neg space]

theorem onPort_of_lt (inBank : p < s.ports.length) (t : State) : (onPort p s fun _ => t) = t :=
  onPort_of_some (List.getElem?_eq_getElem inBank) _

/-- PCheck, then QCheck on an uninitialised queue: refused whether or not the port exists. -/
theorem onPort_onQueue_of_uninitialised (hx : s.queues[q]? = some x) (zero : x.cap = 0) (k : Queue → State) :
    (onPort p s fun _ => onQueue q s k) = raise .invalidArgument s :=
  onPort_induct (P := fun t => t = raise .invalidArgument s) rfl fun _ _ => onQueue_of_uninitialised hx zero k

/-- PCheck, then QCheck, both passed. -/
theorem onPort_onQueue_of_initialised (inBank : p < s.ports.length) (hx : s.queues[q]? = some x)
    (initialised : x.cap ≠ 0) (k : Queue → State) : (onPort p s fun _ => onQueue q s k) = k x :=
  (onPort_of_lt inBank _).trans (onQueue_of_initialised hx initialised k)

end

/-- Settles O32: QCheck, then the two results of a host put. -/
theorem qPutResult : Obligations.QPutResult := by
  intro s q b
  refine ⟨fun absent => ?_, fun x hx => ⟨fun zero => ?_, fun initialised full => ?_, fun initialised space => ?_⟩⟩
  · exact congrArg Host.Outcome.next (onQueue_of_none (List.getElem?_eq_none absent) _)
  · exact congrArg Host.Outcome.next (onQueue_of_uninitialised hx zero _)
  · exact congrArg Host.Outcome.next ((onQueue_of_initialised hx initialised _).trans (hostPut_of_full hx full))
  · exact congrArg Host.Outcome.next ((onQueue_of_initialised hx initialised _).trans (hostPut_of_space hx space))

/-- Settles O38: PCheck and QCheck, then a host put into Q[2p+1] or a host get from Q[2p]. -/
theorem serialWriteAndRead : Obligations.SerialWriteAndRead := by
  intro s p b
  refine ⟨fun absent => ⟨?_, ?_⟩,
    fun x hx => ⟨fun zero => ?_, fun inBank initialised full => ?_, fun inBank initialised space => ?_⟩,
    fun x hx => ⟨fun zero => ?_, fun inBank initialised empty => ?_, fun inBank initialised held => ?_⟩⟩
  · exact congrArg Host.Outcome.next (onPort_of_none (List.getElem?_eq_none absent) _)
  · exact congrArg Host.Outcome.next (onPort_of_none (List.getElem?_eq_none absent) _)
  · exact congrArg Host.Outcome.next (onPort_onQueue_of_uninitialised hx zero _)
  · exact congrArg Host.Outcome.next
      ((onPort_onQueue_of_initialised inBank hx initialised _).trans (hostPut_of_full hx full))
  · exact congrArg Host.Outcome.next
      ((onPort_onQueue_of_initialised inBank hx initialised _).trans (hostPut_of_space hx space))
  · exact congrArg Host.Outcome.next (onPort_onQueue_of_uninitialised hx zero _)
  · exact congrArg Host.Outcome.next
      ((onPort_onQueue_of_initialised inBank hx initialised _).trans (hostGet_of_empty hx empty))
  · obtain ⟨v, e, written, taken⟩ := hostGet_of_held hx held
    exact ⟨v, e, written, congrArg Host.Outcome.next
      ((onPort_onQueue_of_initialised inBank hx initialised _).trans taken)⟩

/-! ### Q_INIT, Q_SPACE and Q_RESET (R200, R208, R209) -/

/-- Settles O31: the identifier, then the length, then the window. -/
theorem qInitResult : Obligations.QInitResult := by
  intro s q base len
  refine ⟨fun refused => ?_, fun inBank nonzero fits => ?_⟩
  · refine congrArg Host.Outcome.next ?_
    by_cases inBank : q.toNat < s.queues.length
    · rw [onQueueSlot_of_some (List.getElem?_eq_getElem inBank)]
      by_cases zero : len = 0
      · exact if_pos zero
      · have outside : s.qmemSize < base.toNat + len.toNat :=
          (refused.resolve_left (Nat.not_le.2 inBank)).resolve_left zero
        exact (if_neg zero).trans (if_pos outside)
    · exact onQueueSlot_of_none (List.getElem?_eq_none (Nat.not_lt.1 inBank)) _
  · refine congrArg Host.Outcome.next ((onQueueSlot_of_some (List.getElem?_eq_getElem inBank) _).trans ?_)
    exact (if_neg nonzero).trans (if_neg (Nat.not_lt.2 fits))

/-- QCheck refuses a queue that does not exist or is not initialised. -/
theorem onQueue_refused {q : Nat} {s : State} (h : s.queues.length ≤ q ∨ ∃ x, s.queues[q]? = some x ∧ x.cap = 0)
    (k : Queue → State) : onQueue q s k = raise .invalidArgument s := by
  rcases h with absent | ⟨x, hx, zero⟩
  · exact onQueue_of_none (List.getElem?_eq_none absent) k
  · exact onQueue_of_uninitialised hx zero k

theorem exec_qSpace {q : Byte} {s : State} {x : Queue} (hx : s.queues[q.toNat]? = some x) (initialised : x.cap ≠ 0) :
    exec (.qSpace q) s = .next (finishData (zext (x.cap - x.count)) s) :=
  congrArg Host.Outcome.next (onQueue_of_initialised hx initialised _)

theorem exec_qSpace_of_empty {q : Byte} {s : State} {x : Queue} (hx : s.queues[q.toNat]? = some x)
    (initialised : x.cap ≠ 0) (empty : x.count = 0) : exec (.qSpace q) s = .next (finishData (zext x.cap) s) := by
  simp [exec_qSpace hx initialised, empty]

theorem exec_qReset {q : Byte} {s : State} {x : Queue} (hx : s.queues[q.toNat]? = some x) (initialised : x.cap ≠ 0) :
    exec (.qReset q) s =
      .next (finish .ok (setQueue q.toNat { x with count := 0, put := 0, get := 0, lerr := .ok } s)) :=
  congrArg Host.Outcome.next (onQueue_of_initialised hx initialised _)

/-- The difference of two fields in 16 bits is exact when it does not wrap. -/
theorem zext_sub {v w : Half} (h : w.toNat ≤ v.toNat) : zext (v - w) = BitVec.ofNat 32 (v.toNat - w.toNat) := by
  rw [zext, ← BitVec.ofNat_toNat, BitVec.toNat_sub_of_le h]

/-- Settles O34: the space is exact under the count's bound, and after a reset the count is 0. -/
theorem qSpaceAndReset : Obligations.QSpaceAndReset := by
  intro s q
  refine ⟨fun refused => ⟨?_, ?_⟩, fun x hx initialised => ⟨fun bounded => ?_, ?_⟩⟩
  · exact congrArg Host.Outcome.next (onQueue_refused refused _)
  · exact congrArg Host.Outcome.next (onQueue_refused refused _)
  · rw [exec_qSpace hx initialised, zext_sub bounded]
    rfl
  · have inBank := (List.getElem?_eq_some_iff.1 hx).1
    exact ⟨_, exec_qReset hx initialised, rfl,
      exec_qSpace_of_empty (x := { x with count := 0, put := 0, get := 0, lerr := .ok })
        (List.getElem?_set_self inBank) initialised rfl⟩

/-! ### The RX interrupt and the wait of SER_READ_SYNC (R210, R268) -/

section
variable {s : State} {p : Nat} {b : Byte} {x : Queue}

theorem rxIrq_of_uninitialised (hx : s.queues[rxQueue p]? = some x) (zero : x.cap = 0) : rxIrq p b s = s := by
  unfold rxIrq
  split
  · next y _ hy =>
    cases hx.symm.trans hy
    exact if_pos zero
  · rfl

theorem rxIrq_of_full (hx : s.queues[rxQueue p]? = some x) (full : x.count = x.cap) : rxIrq p b s = s := by
  rcases rxIrq_cases p b s with same | ⟨_, _, t, -, -, -, ht, -⟩
  · exact same
  · cases ((queuePut_eq_none hx).2 full).symm.trans ht

theorem rxIrq_of_space (inBank : p < s.ports.length) (hx : s.queues[rxQueue p]? = some x) (initialised : x.cap ≠ 0)
    (space : x.count ≠ x.cap) :
    rxIrq p b s = setQueue (rxQueue p) { x with put := nextSlot x.put x.cap, count := x.count + 1 }
      (memWrite (slotAddr x x.put) b s) := by
  have put := queuePut_eq_some.2 ⟨x, hx, space, Eq.refl (setQueue (rxQueue p)
    { x with put := nextSlot x.put x.cap, count := x.count + 1 } (memWrite (slotAddr x x.put) b s))⟩
  simp only [rxIrq, List.getElem?_eq_getElem inBank, hx, if_neg initialised, put]

/-- What an accepted RX event leaves behind. -/
theorem rxIrq_stores (inBank : p < s.ports.length) (hx : s.queues[rxQueue p]? = some x) (initialised : x.cap ≠ 0)
    (space : x.count ≠ x.cap) :
    (rxIrq p b s).byteAt (slotAddr x x.put) = some b ∧ (rxIrq p b s).active = s.active ∧
      (rxIrq p b s).queues[rxQueue p]? = some { x with put := nextSlot x.put x.cap, count := x.count + 1 } := by
  rw [rxIrq_of_space inBank hx initialised space]
  exact ⟨memWrite_byteAt_same (slotAddr x x.put) b s, rfl,
    List.getElem?_set_self (List.getElem?_eq_some_iff.1 hx).1⟩

end

/-- Settles O9: the event is the RxIRQ step, by the three cases of its queue. -/
theorem rxInterrupt : Obligations.RxInterrupt := by
  intro s rest p b x hinput inBank hx
  refine ⟨fun zero => ?_, fun _ full => ?_, fun initialised space => ?_⟩
  · exact (step_of_input hinput).trans (congrArg Host.Outcome.next (rxIrq_of_uninitialised hx zero))
  · exact (step_of_input hinput).trans (congrArg Host.Outcome.next (rxIrq_of_full hx full))
  · exact (step_of_input hinput).trans (congrArg Host.Outcome.next (rxIrq_of_space inBank hx initialised space))

section
variable {s : State} {p : Byte} {x : Queue}

theorem pollReadSync_of_empty (hx : s.queues[rxQueue p.toNat]? = some x) (empty : x.count = 0) :
    pollReadSync p s = { s with active := some (.serReadSync p) } :=
  (pollReadSync_eq hx).trans (if_pos empty)

theorem pollReadSync_of_held (hx : s.queues[rxQueue p.toNat]? = some x) (held : x.count ≠ 0) :
    pollReadSync p s = hostGet (rxQueue p.toNat) s :=
  (pollReadSync_eq hx).trans (if_neg held)

theorem exec_serReadSync (inBank : p.toNat < s.ports.length) (hx : s.queues[rxQueue p.toNat]? = some x)
    (initialised : x.cap ≠ 0) : exec (.serReadSync p) s = .next (pollReadSync p s) :=
  congrArg Host.Outcome.next (onPort_onQueue_of_initialised inBank hx initialised _)

theorem advance_serReadSync (waiting : s.active = some (.serReadSync p)) : advance s = pollReadSync p s := by
  simp only [advance, waiting]

/-- The wait ends with the next RX event: on an empty queue, whose cursors are equal, the byte put is the byte taken. -/
theorem advance_rxIrq_of_empty {b : Byte} (waiting : s.active = some (.serReadSync p))
    (inBank : p.toNat < s.ports.length) (hx : s.queues[rxQueue p.toNat]? = some x) (initialised : x.cap ≠ 0)
    (empty : x.count = 0) (same : x.get = x.put) :
    (advance (rxIrq p.toNat b s)).rdata = zext b ∧ (advance (rxIrq p.toNat b s)).res = .ok ∧
      (advance (rxIrq p.toNat b s)).active = none := by
  have space : x.count ≠ x.cap := empty ▸ initialised.symm
  obtain ⟨stored, active, queue⟩ := rxIrq_stores (b := b) inBank hx initialised space
  have held : x.count + 1 ≠ 0 := by simp [empty]
  rw [advance_serReadSync (active.trans waiting), pollReadSync_of_held queue held]
  obtain ⟨v, e, written, taken⟩ := hostGet_of_held queue held
  obtain ⟨rfl, -⟩ := written b (by rwa [slotAddr, same])
  rw [taken]
  exact ⟨rfl, rfl, rfl⟩

end

/-- Settles O40: SER_READ_SYNC is one poll behind PCheck and QCheck; with a byte held the poll is a host get, without
one it waits. -/
theorem synchronousRead : Obligations.SynchronousRead := by
  intro s p
  refine ⟨fun absent => ?_, fun x hx => ⟨fun zero => ?_, fun inBank initialised held => ⟨?_, fun waiting => ?_⟩,
    fun inBank initialised empty => ⟨?_, fun waiting => ?_, fun b => ⟨_, rfl, fun same => ?_⟩⟩⟩⟩
  · exact congrArg Host.Outcome.next (onPort_of_none (List.getElem?_eq_none absent) _)
  · exact congrArg Host.Outcome.next (onPort_onQueue_of_uninitialised hx zero _)
  · obtain ⟨v, e, written, taken⟩ := hostGet_of_held hx held
    refine ⟨v, e, written, ?_⟩
    rw [exec_serReadSync inBank hx initialised, pollReadSync_of_held hx held]
    exact congrArg Host.Outcome.next taken
  · rw [exec_serReadSync inBank hx initialised, advance_serReadSync waiting]
  · rw [exec_serReadSync inBank hx initialised, pollReadSync_of_empty hx empty]
  · rw [advance_serReadSync waiting, pollReadSync_of_empty hx empty, ← waiting]
  · exact advance_rxIrq_of_empty (s := { s with active := some (.serReadSync p) }) rfl inBank hx initialised empty same

/-! ### The FIFO law (R202) -/

section
variable {size : Nat} {x : Queue}

theorem QueueInv.count_lt_cap (h : QueueInv size x) (initialised : x.cap ≠ 0) (space : x.count ≠ x.cap) :
    x.count.toNat < x.cap.toNat := by
  obtain ⟨bounded, -⟩ := h.2 initialised
  exact Nat.lt_of_le_of_ne bounded (mt BitVec.eq_of_toNat_eq space)

theorem QueueInv.toNat_count_succ (h : QueueInv size x) (initialised : x.cap ≠ 0) (space : x.count ≠ x.cap) :
    (x.count + 1).toNat = x.count.toNat + 1 :=
  BitVec.toNat_add_of_lt (Nat.lt_of_le_of_lt (h.count_lt_cap initialised space) x.cap.isLt)

theorem toNat_pred_succ {v : Half} (h : v ≠ 0) : v.toNat = (v - 1).toNat + 1 := by
  have pos := toNat_pos h
  have pred : (v - 1).toNat = v.toNat - 1 := BitVec.toNat_sub_of_le pos
  omega

/-- Two slots less than a capacity apart are different slots of the ring. -/
theorem mod_add_ne_of_lt {g k n cap : Nat} (hk : k < n) (hn : n < cap) : (g + k) % cap ≠ (g + n) % cap := by
  intro same
  have : k % cap = n % cap := Nat.ModEq.add_left_cancel' g same
  rw [Nat.mod_eq_of_lt (hk.trans hn), Nat.mod_eq_of_lt hn] at this
  omega

/-- A put appends its byte: the put slot is the one behind the held bytes and holds none of them. -/
theorem QueueInv.queueBytes_put (h : QueueInv size x) (initialised : x.cap ≠ 0) (space : x.count ≠ x.cap) (s : State)
    (b : Byte) :
    (memWrite (slotAddr x x.put) b s).queueBytes { x with put := nextSlot x.put x.cap, count := x.count + 1 } =
      s.queueBytes x ++ [some b] := by
  obtain ⟨-, -, -, hput, -⟩ := h.2 initialised
  have room := h.count_lt_cap initialised space
  simp only [State.queueBytes, h.toNat_count_succ initialised space, List.range_succ, List.map_append, List.map_cons,
    List.map_nil]
  congr 1
  · refine List.map_congr_left fun k hk => memWrite_byteAt_ne ?_ b s
    have other := mod_add_ne_of_lt (g := x.get.toNat) (List.mem_range.1 hk) room
    unfold slotAddr
    omega
  · rw [← hput]
    exact congrArg (· :: []) (memWrite_byteAt_same _ b s)

/-- A get takes the byte of the get slot off the front. -/
theorem QueueInv.queueBytes_get (h : QueueInv size x) (held : x.count ≠ 0) (s : State) :
    s.queueBytes x = s.byteAt (slotAddr x x.get) ::
      s.queueBytes { x with get := nextSlot x.get x.cap, count := x.count - 1 } := by
  have initialised := h.cap_ne_zero held
  obtain ⟨-, -, hget, -, -⟩ := h.2 initialised
  simp only [State.queueBytes, toNat_pred_succ held, List.range_succ_eq_map, List.map_cons, List.map_map]
  congr 1
  · rw [Nat.add_zero, Nat.mod_eq_of_lt hget, slotAddr]
  · refine List.map_congr_left fun k _ => ?_
    simp only [Function.comp_apply, toNat_nextSlot _ initialised, Nat.mod_add_mod]
    congr 3
    omega

end

/-- Queue `q` of a state is an initialised queue that satisfies its invariant and holds the bytes `bs`, oldest first. -/
structure HoldsBytes (s : State) (q : Nat) (x : Queue) (bs : List Byte) : Prop where
  queue : s.queues[q]? = some x
  initialised : x.cap ≠ 0
  inv : QueueInv s.qmemSize x
  bytes : s.queueBytes x = bs.map some

namespace HoldsBytes

variable {s : State} {q : Nat} {x : Queue} {bs : List Byte}

theorem length_eq (h : HoldsBytes s q x bs) : bs.length = x.count.toNat := by
  simpa [State.queueBytes] using (congrArg List.length h.bytes).symm

theorem inBank (h : HoldsBytes s q x bs) : q < s.queues.length := (List.getElem?_eq_some_iff.1 h.queue).1

theorem full_iff (h : HoldsBytes s q x bs) : x.count = x.cap ↔ bs.length = x.cap.toNat := by
  rw [h.length_eq, BitVec.toNat_inj]

/-- A put into a full queue. -/
theorem hostPut_full (h : HoldsBytes s q x bs) (full : bs.length = x.cap.toNat) (b : Byte) :
    (hostPut q b s).res = .queueFull ∧ (hostPut q b s).rdata = s.rdata ∧
      ∃ y, y.cap = x.cap ∧ HoldsBytes (hostPut q b s) q y bs := by
  rw [hostPut_of_full h.queue (h.full_iff.2 full)]
  exact ⟨rfl, rfl, { x with lerr := .queueFull }, rfl, List.getElem?_set_self h.inBank, h.initialised, h.inv, h.bytes⟩

/-- A put into a queue with space. -/
theorem hostPut_space (h : HoldsBytes s q x bs) (space : bs.length ≠ x.cap.toNat) (b : Byte) :
    (hostPut q b s).res = .ok ∧ (hostPut q b s).rdata = s.rdata ∧
      ∃ y, y.cap = x.cap ∧ HoldsBytes (hostPut q b s) q y (bs ++ [b]) := by
  have room : x.count ≠ x.cap := mt h.full_iff.1 space
  have bytes := h.inv.queueBytes_put h.initialised room s b
  rw [h.bytes] at bytes
  rw [hostPut_of_space h.queue room]
  exact ⟨rfl, rfl, { x with put := nextSlot x.put x.cap, count := x.count + 1, lerr := .ok }, rfl,
    List.getElem?_set_self h.inBank, h.initialised, h.inv.afterPut h.initialised room,
    bytes.trans (List.map_append (l₂ := [b])).symm⟩

/-- A get from an empty queue. -/
theorem hostGet_empty (h : HoldsBytes s q x []) :
    (hostGet q s).res = .queueEmpty ∧ (hostGet q s).rdata = s.rdata ∧
      ∃ y, y.cap = x.cap ∧ HoldsBytes (hostGet q s) q y [] := by
  have empty : x.count = 0 := BitVec.eq_of_toNat_eq h.length_eq.symm
  rw [hostGet_of_empty h.queue empty]
  exact ⟨rfl, rfl, { x with lerr := .queueEmpty }, rfl, List.getElem?_set_self h.inBank, h.initialised, h.inv, h.bytes⟩

/-- A get from a queue that holds a byte. -/
theorem hostGet_held {b : Byte} (h : HoldsBytes s q x (b :: bs)) :
    (hostGet q s).res = .ok ∧ (hostGet q s).rdata = zext b ∧
      ∃ y, y.cap = x.cap ∧ HoldsBytes (hostGet q s) q y bs := by
  have held : x.count ≠ 0 := toNat_ne_zero_iff.1 (h.length_eq ▸ Nat.succ_ne_zero bs.length)
  obtain ⟨oldest, others⟩ := List.cons_eq_cons.1 ((h.inv.queueBytes_get held s).symm.trans h.bytes)
  obtain ⟨v, e, written, taken⟩ := hostGet_of_held h.queue held
  obtain ⟨rfl, -⟩ := written b oldest
  rw [taken]
  exact ⟨rfl, rfl, { x with get := nextSlot x.get x.cap, count := x.count - 1, lerr := .ok }, rfl,
    List.getElem?_set_self h.inBank, h.initialised, h.inv.afterGet held, others⟩

end HoldsBytes

theorem commandTrace_cons {i : Instr} {s t : State} (h : exec i s = .next t) (is : List Instr) :
    commandTrace (i :: is) s = (t.res, t.rdata) :: commandTrace is t := by
  simp only [commandTrace, h]

section
variable {s : State} {q : Byte} {x : Queue} {bs : List Byte}

theorem HoldsBytes.exec_qPut (h : HoldsBytes s q.toNat x bs) (b : Byte) :
    exec (.qPut q b) s = .next (hostPut q.toNat b s) :=
  congrArg Host.Outcome.next (onQueue_of_initialised h.queue h.initialised _)

theorem HoldsBytes.exec_qGet (h : HoldsBytes s q.toNat x bs) : exec (.qGet q) s = .next (hostGet q.toNat s) :=
  congrArg Host.Outcome.next (onQueue_of_initialised h.queue h.initialised _)

/-- The simulation: a queue that holds `bs` answers every list of operations as the ideal FIFO that holds `bs`. -/
theorem HoldsBytes.commandTrace_eq (ops : List QueueOp) (h : HoldsBytes s q.toNat x bs) :
    commandTrace (ops.map (QueueOp.instr q)) s = fifoTrace x.cap.toNat ops bs s.rdata := by
  induction ops generalizing s x bs with
  | nil => rfl
  | cons op ops ih =>
    cases op with
    | put b =>
      refine (commandTrace_cons (h.exec_qPut b) _).trans ?_
      by_cases full : bs.length = x.cap.toNat
      · obtain ⟨res, rdata, y, cap, after⟩ := h.hostPut_full full b
        rw [ih after, res, rdata, cap, fifoTrace, if_pos full]
      · obtain ⟨res, rdata, y, cap, after⟩ := h.hostPut_space full b
        rw [ih after, res, rdata, cap, fifoTrace, if_neg full]
    | get =>
      refine (commandTrace_cons h.exec_qGet _).trans ?_
      cases bs with
      | nil =>
        obtain ⟨res, rdata, y, cap, after⟩ := h.hostGet_empty
        rw [ih after, res, rdata, cap, fifoTrace]
      | cons b bs =>
        obtain ⟨res, rdata, y, cap, after⟩ := h.hostGet_held
        rw [ih after, res, rdata, cap, fifoTrace, zext]

end

/-- Settles O36: the simulation, from a state whose queue holds `bs`. -/
theorem queueIsAFifo : Obligations.QueueIsAFifo :=
  fun _ _ _ _ ops queue initialised inv bytes => HoldsBytes.commandTrace_eq ops ⟨queue, initialised, inv, bytes⟩

end Sys2Proof.Machine

/-! ## Serial ports (41_serial.md): the receivers, SER_WRITE_SYNC and the two halves of the serial pass -/

namespace Sys2Proof.Machine

/-! ### Attaching and detaching the receivers (R251, R252, R253, R254, R255) -/

/-- The size check of SER_ATTACH_LINE refuses whether or not the port exists. -/
theorem exec_serAttachLine_of_badSize {s : State} (bad : lowHalf s.arg0 = 0 ∨ s.lineMax < (lowHalf s.arg0).toNat)
    (p : Byte) (cbw : Half) : exec (.serAttachLine p cbw) s = .next (raise .invalidArgument s) :=
  congrArg Host.Outcome.next
    (onPort_induct (P := fun t => t = raise .invalidArgument s) rfl fun _ _ => if_pos bad)

/-- Settles O37: PCheck, for SER_ATTACH_LINE the size, then the port's receiver is written. -/
theorem receiverConfiguration : Obligations.ReceiverConfiguration := by
  intro s p cbw size
  refine ⟨fun absent => ?_, fun bad => exec_serAttachLine_of_badSize bad p cbw,
    fun x hx => ⟨?_, fun nonzero fits => ?_, ?_, ?_⟩⟩
  · have refused := onPort_of_none (List.getElem?_eq_none absent)
    exact ⟨congrArg Host.Outcome.next (refused _), congrArg Host.Outcome.next (refused _),
      congrArg Host.Outcome.next (refused _), congrArg Host.Outcome.next (refused _)⟩
  · exact congrArg Host.Outcome.next (onPort_of_some hx _)
  · have valid : ¬(size = 0 ∨ s.lineMax < size.toNat) := not_or.2 ⟨nonzero, Nat.not_lt.2 fits⟩
    exact congrArg Host.Outcome.next ((onPort_of_some hx _).trans (if_neg valid))
  · exact congrArg Host.Outcome.next (onPort_of_some hx _)
  · exact congrArg Host.Outcome.next (onPort_of_some hx _)

/-! ### Draws of TxReady and SER_WRITE_SYNC (R21, R266) -/

section
variable {s : State} {p : Byte} {ready : Bool}

/-- The last announced answer is given and kept. -/
theorem drawTx_of_last (announced : Table.lookup p.toNat s.env.txs = some [ready]) :
    drawTx p s = (ready, setEnv { s.env with draws := s.env.draws + 1 } s) := by
  simp only [drawTx, drawFrom, announced, setEnv]

/-- An announced answer before the last is given and used up. -/
theorem drawTx_of_next {next : Bool} {later : List Bool}
    (announced : Table.lookup p.toNat s.env.txs = some (ready :: next :: later)) :
    drawTx p s = (ready, setEnv { s.env with
      txs := Table.insert p.toNat (next :: later) s.env.txs, draws := s.env.draws + 1 } s) := by
  simp only [drawTx, drawFrom, announced, setEnv]

theorem exec_serWriteSync (inBank : p.toNat < s.ports.length) (b : Byte) :
    exec (.serWriteSync p b) s = .next (pollWriteSync p b s) :=
  congrArg Host.Outcome.next (onPort_of_lt inBank _)

theorem advance_serWriteSync {b : Byte} (waiting : s.active = some (.serWriteSync p b)) :
    advance s = pollWriteSync p b s := by
  simp only [advance, waiting]

/-- SER_WRITE_SYNC on a port that exists, by the answer of its one draw. -/
theorem exec_serWriteSync_of_draw {e : Env} (inBank : p.toNat < s.ports.length) (b : Byte)
    (draw : drawTx p s = (ready, setEnv e s)) :
    exec (.serWriteSync p b) s =
      if ready then .next { s with out := s.out ++ [.txByte p b], env := e, res := .ok, active := none }
      else .next { s with env := e, active := some (.serWriteSync p b) } := by
  rw [exec_serWriteSync inBank, pollWriteSync_eq, draw]
  cases ready <;> rfl

end

/-- Settles O39: PCheck, then one draw, whose answer and environment are those of the four kinds of announcement. -/
theorem synchronousWrite : Obligations.SynchronousWrite := by
  intro s p b
  refine ⟨fun absent => ?_, fun inBank => ⟨⟨_, _, exec_serWriteSync_of_draw inBank b rfl⟩, fun always => ?_,
    fun never => ?_, fun ready next later announced => ?_⟩, fun waiting inBank => ?_⟩
  · exact congrArg Host.Outcome.next (onPort_of_none (List.getElem?_eq_none absent) _)
  · exact exec_serWriteSync_of_draw inBank b (drawTx_of_last always)
  · exact exec_serWriteSync_of_draw inBank b (drawTx_of_last never)
  · exact exec_serWriteSync_of_draw inBank b (drawTx_of_next announced)
  · rw [exec_serWriteSync inBank, advance_serWriteSync waiting]

/-! ### Gets from a queue (R206) -/

/-- A queue after one get that takes a byte (R206). -/
def Queue.afterGet (x : Queue) : Queue := { x with get := nextSlot x.get x.cap, count := x.count - 1 }

/-- A queue after `k` gets: `k` slots further, holding `k` bytes fewer. -/
def Queue.afterGets (x : Queue) (k : Nat) : Queue :=
  { x with get := BitVec.ofNat 16 ((x.get.toNat + k) % x.cap.toNat), count := BitVec.ofNat 16 (x.count.toNat - k) }

theorem QueueInv.afterGets_zero {size : Nat} {x : Queue} (h : QueueInv size x) (initialised : x.cap ≠ 0) :
    x.afterGets 0 = x := by
  obtain ⟨-, -, hget, -, -⟩ := h.2 initialised
  simp [Queue.afterGets, Nat.mod_eq_of_lt hget]

/-- One get (R206) and then `k` more are `k + 1` gets. -/
theorem Queue.afterGets_succ {x : Queue} (initialised : x.cap ≠ 0) (held : x.count ≠ 0) (k : Nat) :
    x.afterGet.afterGets k = x.afterGets (k + 1) := by
  have slot : ((x.get.toNat + 1) % x.cap.toNat + k) % x.cap.toNat = (x.get.toNat + (k + 1)) % x.cap.toNat := by
    rw [Nat.mod_add_mod, Nat.add_assoc, Nat.add_comm 1]
  have left : (x.count - 1).toNat - k = x.count.toNat - (k + 1) := by
    rw [toNat_pred_succ held, Nat.add_sub_add_right]
  simp only [Queue.afterGets, Queue.afterGet, toNat_nextSlot _ initialised, slot, left]

/-- An empty queue has its cursors at one slot. -/
theorem QueueInv.get_eq_put {size : Nat} {x : Queue} (h : QueueInv size x) (initialised : x.cap ≠ 0)
    (empty : x.count = 0) : x.get = x.put := by
  obtain ⟨-, -, hget, hput, -⟩ := h.2 initialised
  refine BitVec.eq_of_toNat_eq ?_
  simp [hput, empty, Nat.mod_eq_of_lt hget]

/-- A get from a queue that holds a byte, whatever the byte (R105, R206). -/
theorem queueGet_of_held {s : State} {k : Nat} {q : Queue} (hq : s.queues[k]? = some q) (held : q.count ≠ 0) :
    ∃ b e, queueGet k s = some (b, setQueue k q.afterGet (setEnv e s)) :=
  ⟨_, _, queueGet_eq_some.2 ⟨q, hq, held, rfl, congrArg (setQueue k q.afterGet) (memRead_state _ s).symm⟩⟩

/-- Writing an object as it is changes nothing. -/
theorem set_of_getElem?_eq {α : Type} {l : List α} {i : Nat} {x : α} (h : l[i]? = some x) : l.set i x = l := by
  obtain ⟨inBank, rfl⟩ := List.getElem?_eq_some_iff.1 h
  exact List.set_getElem_self inBank

namespace HoldsBytes

variable {s : State} {q : Nat} {x : Queue} {bs : List Byte}

theorem count_ne_zero {b : Byte} (h : HoldsBytes s q x (b :: bs)) : x.count ≠ 0 :=
  toNat_ne_zero_iff.1 (h.length_eq ▸ Nat.succ_ne_zero bs.length)

/-- A get from a queue whose oldest byte is `b` (R206). -/
theorem queueGet_eq {b : Byte} (h : HoldsBytes s q x (b :: bs)) :
    queueGet q s = some (b, setQueue q x.afterGet s) ∧ HoldsBytes (setQueue q x.afterGet s) q x.afterGet bs := by
  obtain ⟨oldest, others⟩ := List.cons_eq_cons.1 ((h.inv.queueBytes_get h.count_ne_zero s).symm.trans h.bytes)
  have read := memRead_of_byte oldest
  have got : queueGet q s = some (b, setQueue q x.afterGet s) :=
    queueGet_eq_some.2 ⟨x, h.queue, h.count_ne_zero, by rw [read], by rw [read]; rfl⟩
  exact ⟨got, List.getElem?_set_self h.inBank, h.initialised, h.inv.afterGet h.count_ne_zero, others⟩

end HoldsBytes

/-! ### The transmit half (R282) -/

section
variable {s t : State} {p b : Byte} {n : Nat}

theorem txLoop_of_waiting (waiting : (drawTx p s).1 = false) : txLoop p.toNat (n + 1) s = (drawTx p s).2 := by
  simp [txLoop, waiting]

theorem txLoop_of_ready (ready : (drawTx p s).1 = true)
    (got : queueGet (txQueue p.toNat) (drawTx p s).2 = some (b, t)) :
    txLoop p.toNat (n + 1) s = txLoop p.toNat n (emit [.txByte p b] t) := by
  simp [txLoop, ready, got]

end

@[simp] theorem serialTx_qmem (p : Nat) (s : State) : (serialTx p s).qmem = s.qmem := by rw [serialTx_state]

theorem serialTx_of_uninitialised {p : Nat} {s : State} {x : Queue} (hx : s.queues[txQueue p]? = some x)
    (zero : x.cap = 0) : serialTx p s = s := by
  simp only [serialTx, hx, if_pos zero]

theorem serialTx_of_initialised {p : Nat} {s : State} {x : Queue} (hx : s.queues[txQueue p]? = some x)
    (initialised : x.cap ≠ 0) : serialTx p s = txLoop p x.count.toNat s := by
  simp only [serialTx, hx, if_neg initialised]

section
variable {s : State} {p : Byte} {x : Queue} {bs : List Byte}

/-- `t` is `s` after the first `k` of the bytes `bs` of the TX queue have left port `p` (R282). -/
structure SentPrefix (s : State) (p : Byte) (x : Queue) (bs : List Byte) (k : Nat) (t : State) : Prop where
  bounded : k ≤ bs.length
  state : t = { s with
    queues := s.queues.set (txQueue p.toNat) (x.afterGets k)
    out := s.out ++ (bs.take k).map (.txByte p), env := t.env }
  rest : s.queueBytes (x.afterGets k) = (bs.drop k).map some

theorem HoldsBytes.sentPrefix_zero (h : HoldsBytes s (txQueue p.toNat) x bs) (e : Env) :
    SentPrefix s p x bs 0 (setEnv e s) := by
  have same := h.inv.afterGets_zero h.initialised
  refine ⟨Nat.zero_le _, ?_, by rw [same]; exact h.bytes⟩
  rw [same, set_of_getElem?_eq h.queue]
  simp [setEnv]

/-- A draw, one byte sent and then `k` more: `k + 1` bytes sent. -/
theorem HoldsBytes.sentPrefix_succ {b : Byte} {k : Nat} {e : Env} {t : State}
    (h : HoldsBytes s (txQueue p.toNat) x (b :: bs))
    (sent : SentPrefix (emit [.txByte p b] (setQueue (txQueue p.toNat) x.afterGet (setEnv e s))) p x.afterGet bs k t) :
    SentPrefix s p x (b :: bs) (k + 1) t := by
  obtain ⟨bounded, state, rest⟩ := sent
  rw [Queue.afterGets_succ h.initialised h.count_ne_zero] at state rest
  refine ⟨Nat.succ_le_succ bounded, state.trans ?_, rest⟩
  simp [emit, setQueue, setEnv]

/-- The drain of the TX side sends the bytes held from the front: it stops at the first draw that answers false. -/
theorem HoldsBytes.txLoop_sentPrefix (h : HoldsBytes s (txQueue p.toNat) x bs) :
    ∃ k, SentPrefix s p x bs k (txLoop p.toNat bs.length s) ∧
      (Table.lookup p.toNat s.env.txs = some [true] → k = bs.length) ∧
      (Table.lookup p.toNat s.env.txs = some [false] → k = 0) := by
  induction bs generalizing s x with
  | nil => exact ⟨0, h.sentPrefix_zero s.env, fun _ => rfl, fun _ => rfl⟩
  | cons b bs ih =>
    cases drawn : (drawTx p s).1 with
    | false =>
      refine ⟨0, ?_, fun always => ?_, fun _ => rfl⟩
      · rw [List.length_cons, txLoop_of_waiting drawn]
        exact h.sentPrefix_zero (drawTx p s).2.env
      · simp [drawTx_of_last always] at drawn
    | true =>
      have h' : HoldsBytes (drawTx p s).2 (txQueue p.toNat) x (b :: bs) := ⟨h.queue, h.initialised, h.inv, h.bytes⟩
      obtain ⟨got, others⟩ := h'.queueGet_eq
      obtain ⟨k, sent, all, -⟩ := ih
        (s := emit [.txByte p b] (setQueue (txQueue p.toNat) x.afterGet (drawTx p s).2))
        ⟨others.queue, others.initialised, others.inv, others.bytes⟩
      refine ⟨k + 1, ?_, fun always => congrArg (· + 1) (all ?_), fun never => ?_⟩
      · rw [List.length_cons, txLoop_of_ready drawn got]
        exact h.sentPrefix_succ sent
      · rw [drawTx_of_last always]
        exact always
      · simp [drawTx_of_last never] at drawn

end

/-- Settles O43: the transmit half is its drain, over as many bytes as the queue holds. -/
theorem transmitSendsAPrefix : Obligations.TransmitSendsAPrefix := by
  intro s p q bs hq initialised inv bytes
  have h : HoldsBytes s (txQueue p.toNat) q bs := ⟨hq, initialised, inv, bytes⟩
  obtain ⟨k, ⟨bounded, state, rest⟩, all, nothing⟩ := h.txLoop_sentPrefix
  rw [h.length_eq, ← serialTx_of_initialised hq initialised] at state
  refine ⟨k, q.afterGets k, _, bounded, ?_, state, ?_, all, nothing⟩
  · rw [h.length_eq]
    rfl
  · rw [← rest]
    exact List.map_congr_left fun _ _ => State.byteAt_congr (serialTx_qmem p.toNat s) _

/-! ### One byte at the line receiver (R281) -/

section
variable {p : Nat} {x : Port} {b : Byte} {lineMax : Nat}

theorem lineFeed_of_terminator (terminator : b = x.term) :
    lineFeed p x b = (lineIdle x, fire x.lcb fun tag =>
      .serLine (BitVec.ofNat 8 p) tag x.llen (lineBytes p x x.llen.toNat)) :=
  if_pos terminator

theorem toNat_llen_succ (room : x.llen.toNat + 1 ≤ x.lsize.toNat) : (x.llen + 1).toNat = x.llen.toNat + 1 :=
  BitVec.toNat_add_of_lt (Nat.lt_of_le_of_lt room x.lsize.isLt)

/-- A byte stored below the end of the buffer. -/
theorem lineFeed_of_room (other : b ≠ x.term) (room : x.llen.toNat + 1 < x.lsize.toNat) :
    lineFeed p x b = ({ x with
      lb := Table.insert x.llen.toNat b x.lb, llen := x.llen + 1, lstate := .accumulating }, []) := by
  have notFull : x.llen + 1 ≠ x.lsize := fun full => by
    have counted := toNat_llen_succ room.le
    rw [full] at counted
    exact room.ne counted.symm
  exact (if_neg other).trans (if_neg notFull)

/-- A byte that fills the buffer. -/
theorem lineFeed_of_full (other : b ≠ x.term) (last : x.llen.toNat + 1 = x.lsize.toNat) :
    lineFeed p x b = ({ x with lb := Table.insert x.llen.toNat b x.lb, llen := 0, lstate := .idle },
      fire x.lcb fun tag => .serLine (BitVec.ofNat 8 p) tag x.lsize (lineBytes p x x.llen.toNat ++ [b])) := by
  have full : x.llen + 1 = x.lsize := BitVec.eq_of_toNat_eq ((toNat_llen_succ last.le).trans last)
  unfold lineFeed
  rw [if_neg other]
  dsimp only
  rw [if_pos full, ← last, lineBytes_store p x _ _ b rfl]
  rfl

/-- A line receiver's byte changes the partial line only. -/
theorem lineFeed_state (p : Nat) (x : Port) (b : Byte) :
    (lineFeed p x b).1 = { x with
      llen := (lineFeed p x b).1.llen, lstate := (lineFeed p x b).1.lstate, lb := (lineFeed p x b).1.lb } := by
  unfold lineFeed
  dsimp only
  split
  · rfl
  · split <;> rfl

/-- What a line receiver emits are line records. -/
theorem lineFeed_records (p : Nat) (x : Port) (b : Byte) :
    ∀ r ∈ (lineFeed p x b).2, ∃ tag len bytes, r = .serLine (BitVec.ofNat 8 p) tag len bytes := by
  unfold lineFeed fire
  dsimp only
  split
  · split <;> simp
  · split
    · split <;> simp
    · simp

@[simp] theorem lineBytes_zero (p : Nat) (x : Port) : lineBytes p x 0 = [] := rfl

/-- R284 for one byte: what the line receiver emits and what it keeps is the partial line before and the byte. -/
theorem lineFeed_text (h : PortInv lineMax x) (attached : x.le = true) (enabled : x.lcb.getLsbD 15 = true) :
    (lineFeed p x b).2.flatMap (lineText x) ++
        lineBytes p (lineFeed p x b).1 (lineFeed p x b).1.llen.toNat =
      lineBytes p x x.llen.toNat ++ [b] := by
  obtain ⟨-, size, -⟩ := h
  obtain ⟨-, -, room⟩ := size attached
  by_cases terminator : b = x.term
  · rw [lineFeed_of_terminator terminator]
    simp [fire, enabled, lineText, room, terminator, lineIdle]
  · rcases Nat.lt_or_eq_of_le room with below | last
    · rw [lineFeed_of_room terminator below]
      exact (congrArg (lineBytes p _) (toNat_llen_succ below.le)).trans (lineBytes_store p x _ _ b rfl)
    · rw [lineFeed_of_full terminator last]
      simp [fire, enabled, lineText]

/-- The bytes of a partial line that has been written. -/
theorem lineBytes_of_written {bs : List Byte} (written : ∀ k < bs.length, Table.lookup k x.lb = bs[k]?) :
    lineBytes p x bs.length = bs := by
  refine List.ext_getElem (by simp [lineBytes]) fun k _ hk => ?_
  simp [lineBytes, lineByte, written k hk, hk]

end

/-! ### One byte at the receivers of a port (R280) -/

section
variable (p : Nat) (x : Port) (b : Byte)

/-- The byte receiver's record stands before the line receiver's. -/
theorem receiveByte_eq :
    receiveByte p x b =
      (if x.le then (lineFeed p x b).1 else x,
        (if x.be = true ∧ x.bcb.getLsbD 15 = true then
            [.serByte (BitVec.ofNat 8 p) (x.bcb.extractLsb' 0 15) b] else []) ++
          if x.le then (lineFeed p x b).2 else []) := by
  rw [ite_and]
  cases h : x.le <;> simp [receiveByte, fire, h]

/-- A received byte changes the partial line only. -/
theorem receiveByte_state :
    (receiveByte p x b).1 = { x with
      llen := (receiveByte p x b).1.llen, lstate := (receiveByte p x b).1.lstate
      lb := (receiveByte p x b).1.lb } := by
  rw [receiveByte_eq]
  dsimp only
  split
  · exact lineFeed_state p x b
  · rfl

@[simp] theorem receiveByte_be : (receiveByte p x b).1.be = x.be := by rw [receiveByte_state]
@[simp] theorem receiveByte_bcb : (receiveByte p x b).1.bcb = x.bcb := by rw [receiveByte_state]
@[simp] theorem receiveByte_le : (receiveByte p x b).1.le = x.le := by rw [receiveByte_state]
@[simp] theorem receiveByte_lcb : (receiveByte p x b).1.lcb = x.lcb := by rw [receiveByte_state]

@[simp] theorem lineText_receiveByte : lineText (receiveByte p x b).1 = lineText x := by
  funext r
  rw [receiveByte_state]
  cases r <;> rfl

theorem receiveByte_of_no_line (detached : x.le = false) : (receiveByte p x b).1 = x := by
  simp [receiveByte, detached]

/-- The byte receiver's record is the only one with the byte. -/
theorem receiveByte_filterMap_byteText :
    (receiveByte p x b).2.filterMap byteText = if x.be = true ∧ x.bcb.getLsbD 15 = true then [b] else [] := by
  have lines : (lineFeed p x b).2.filterMap byteText = [] := List.filterMap_eq_nil_iff.2 fun r hr => by
    obtain ⟨tag, len, bytes, rfl⟩ := lineFeed_records p x b r hr
    rfl
  rw [receiveByte_eq]
  split <;> split <;> simp [lines, byteText]

/-- R284 for one byte of a port. -/
theorem receiveByte_text {lineMax : Nat} (h : PortInv lineMax x) (attached : x.le = true)
    (enabled : x.lcb.getLsbD 15 = true) :
    (receiveByte p x b).2.flatMap (lineText x) ++
        lineBytes p (receiveByte p x b).1 (receiveByte p x b).1.llen.toNat =
      lineBytes p x x.llen.toNat ++ [b] := by
  have fed := lineFeed_text (p := p) (b := b) h attached enabled
  rw [receiveByte_eq, if_pos attached, if_pos attached]
  split <;> simpa [lineText] using fed

end

/-! ### A list of bytes at the receivers of a port (R284) -/

section
variable {p : Nat} {x : Port}

theorem receiveRun_bytes (attached : x.be = true) (enabled : x.bcb.getLsbD 15 = true) (bs : List Byte) :
    (receiveRun p x bs).2.filterMap byteText = bs := by
  induction bs generalizing x with
  | nil => rfl
  | cons b bs ih =>
    have one := receiveByte_filterMap_byteText p x b
    rw [if_pos ⟨attached, enabled⟩] at one
    simp [receiveRun, one, ih (x := (receiveByte p x b).1) (by simpa) (by simpa)]

theorem receiveRun_no_bytes (detached : x.be = false) (bs : List Byte) :
    (receiveRun p x bs).2.filterMap byteText = [] := by
  induction bs generalizing x with
  | nil => rfl
  | cons b bs ih =>
    have one := receiveByte_filterMap_byteText p x b
    rw [if_neg (by simp [detached])] at one
    simp [receiveRun, one, ih (x := (receiveByte p x b).1) (by simpa)]

/-- R284: what the line receiver emits and what it keeps is the partial line before and the bytes, in order. -/
theorem receiveRun_text {lineMax : Nat} (h : PortInv lineMax x) (attached : x.le = true)
    (enabled : x.lcb.getLsbD 15 = true) (bs : List Byte) :
    (receiveRun p x bs).2.flatMap (lineText x) ++
        lineBytes p (receiveRun p x bs).1 (receiveRun p x bs).1.llen.toNat =
      lineBytes p x x.llen.toNat ++ bs := by
  induction bs generalizing x with
  | nil => simp [receiveRun]
  | cons b bs ih =>
    have others := ih (h.receiveByte p b) (by simpa) (by simpa)
    have first := receiveByte_text p x b h attached enabled
    rw [lineText_receiveByte] at others
    simp only [receiveRun, List.flatMap_append, List.append_assoc, others]
    rw [← List.append_assoc, first, List.append_assoc, List.singleton_append]

theorem receiveRun_of_no_line (detached : x.le = false) (bs : List Byte) : (receiveRun p x bs).1 = x := by
  induction bs with
  | nil => rfl
  | cons b bs ih => simpa only [receiveRun, receiveByte_of_no_line p x b detached] using ih

end

/-! ### The receive half (R280) -/

section
variable {s t : State} {p : Nat} {x : Port} {q : Queue}

theorem rxLoop_of_taken {b : Byte} {n : Nat} (taken : queueGet (rxQueue p) s = some (b, t))
    (hx : t.ports[p]? = some x) :
    rxLoop p (n + 1) s = rxLoop p n (emit (receiveByte p x b).2 (setPort p (receiveByte p x b).1 t)) := by
  simp only [rxLoop, taken, hx]

theorem serialRx_of_uninitialised (hx : s.ports[p]? = some x) (hq : s.queues[rxQueue p]? = some q) (zero : q.cap = 0) :
    serialRx p s = s := by
  simp only [serialRx, hx, hq, if_pos zero]

theorem serialRx_of_detached (hx : s.ports[p]? = some x) (hq : s.queues[rxQueue p]? = some q)
    (noByte : x.be = false) (noLine : x.le = false) : serialRx p s = s := by
  simp only [serialRx, hx, hq, noByte, noLine, and_self, if_true, ite_self]

theorem serialRx_of_attached (hx : s.ports[p]? = some x) (hq : s.queues[rxQueue p]? = some q)
    (initialised : q.cap ≠ 0) (attached : x.be = true ∨ x.le = true) : serialRx p s = rxLoop p q.count.toNat s := by
  have receiver : ¬(x.be = false ∧ x.le = false) := by rcases attached with h | h <;> simp [h]
  simp only [serialRx, hx, hq, if_neg initialised, if_neg receiver]

/-- The receive half does nothing, or it is its drain. -/
theorem serialRx_cases (p : Nat) (s : State) : serialRx p s = s ∨ ∃ n, serialRx p s = rxLoop p n s := by
  unfold serialRx
  split
  · split
    · exact .inl rfl
    · split
      · exact .inl rfl
      · exact .inr ⟨_, rfl⟩
  · exact .inl rfl

/-- The drain of the RX side gives the receivers every byte held, in order and once. -/
theorem HoldsBytes.rxLoop_eq {bs : List Byte} (h : HoldsBytes s (rxQueue p) q bs) (hx : s.ports[p]? = some x) :
    rxLoop p bs.length s = { s with
      queues := s.queues.set (rxQueue p) { q with get := q.put, count := 0 }
      ports := s.ports.set p (receiveRun p x bs).1, out := s.out ++ (receiveRun p x bs).2 } := by
  induction bs generalizing s q x with
  | nil =>
    have empty : q.count = 0 := BitVec.eq_of_toNat_eq h.length_eq.symm
    have same : { q with get := q.put, count := 0 } = q :=
      congrArg₂ (fun get count => { q with get := get, count := count })
        (h.inv.get_eq_put h.initialised empty).symm empty.symm
    rw [same, set_of_getElem?_eq h.queue]
    simp [rxLoop, receiveRun, set_of_getElem?_eq hx]
  | cons b bs ih =>
    obtain ⟨taken, others⟩ := h.queueGet_eq
    have inBank : p < s.ports.length := (List.getElem?_eq_some_iff.1 hx).1
    have rest := ih
      (s := emit (receiveByte p x b).2 (setPort p (receiveByte p x b).1 (setQueue (rxQueue p) q.afterGet s)))
      ⟨others.queue, others.initialised, others.inv, others.bytes⟩ (List.getElem?_set_self inBank)
    rw [List.length_cons, rxLoop_of_taken taken hx, rest]
    simp [emit, setPort, setQueue, receiveRun, Queue.afterGet]

end

/-- Settles O42: the line receiver by its three cases, one byte, the drain, and the text of a list of bytes. -/
theorem receiversGetEveryByteInOrder : Obligations.ReceiversGetEveryByteInOrder := by
  have port (p : Byte) : BitVec.ofNat 8 p.toNat = p := by simp
  refine ⟨fun p x b => ⟨fun terminator => ?_, fun other room => ?_, fun other last => ?_,
    fun bs => lineBytes_of_written, ?_⟩, fun s p x q bs hx hq initialised inv portInv attached bytes => ?_⟩
  · rw [lineFeed_of_terminator terminator, port]
    rfl
  · exact lineFeed_of_room other room
  · rw [lineFeed_of_full other last, port]
    rfl
  · rw [receiveByte_eq, port]
  · have h : HoldsBytes s (rxQueue p.toNat) q bs := ⟨hq, initialised, inv, bytes⟩
    refine ⟨?_, fun byte enabled => receiveRun_bytes byte enabled bs, fun noByte => receiveRun_no_bytes noByte bs,
      fun line enabled => receiveRun_text portInv line enabled bs, fun noLine => receiveRun_of_no_line noLine bs⟩
    rw [serialRx_of_attached hx hq initialised attached, ← h.length_eq]
    exact h.rxLoop_eq hx

/-! ### The serial pass (R270, R283) -/

/-- Port `p` and its RX queue: all that its receive half looks at. -/
def rxView (p : Nat) (s : State) : Option Port × Option Queue := (s.ports[p]?, s.queues[rxQueue p]?)

section
variable {s t : State} {i p q : Nat}

theorem rxQueue_ne_txQueue (p i : Nat) : rxQueue p ≠ txQueue i := by
  unfold rxQueue txQueue
  omega

theorem rxQueue_ne_rxQueue (other : i ≠ p) : rxQueue p ≠ rxQueue i := by
  unfold rxQueue
  omega

theorem rxView_queueGet {b : Byte} (other : rxQueue p ≠ q) (taken : queueGet q s = some (b, t)) :
    rxView p t = rxView p s := by
  obtain ⟨x, -, -, -, rfl⟩ := queueGet_eq_some.1 taken
  simp [rxView, setQueue, List.getElem?_set_ne other.symm]

theorem rxView_txLoop (p i n : Nat) (s : State) : rxView p (txLoop i n s) = rxView p s := by
  induction n generalizing s with
  | zero => rfl
  | succ n ih =>
    simp only [txLoop]
    split
    · split
      · rfl
      · next taken =>
        have kept := rxView_queueGet (rxQueue_ne_txQueue p i) taken
        exact (ih _).trans kept
    · rfl

theorem rxView_serialTx (p i : Nat) (s : State) : rxView p (serialTx i s) = rxView p s := by
  unfold serialTx
  split
  · split
    · rfl
    · exact rxView_txLoop p i _ s
  · rfl

theorem rxView_rxLoop (other : i ≠ p) (n : Nat) (s : State) : rxView p (rxLoop i n s) = rxView p s := by
  induction n generalizing s with
  | zero => rfl
  | succ n ih =>
    unfold rxLoop
    split
    · rfl
    · next b t taken =>
      have kept := rxView_queueGet (rxQueue_ne_rxQueue other) taken
      split
      · exact kept
      · refine (ih _).trans (Eq.trans ?_ kept)
        simp [rxView, emit, setPort, List.getElem?_set_ne other]

theorem rxView_serialPort (other : i ≠ p) (s : State) : rxView p (serialPort s i) = rxView p s := by
  refine (rxView_serialTx p i _).trans ?_
  rcases serialRx_cases i s with idle | ⟨n, drained⟩
  · rw [idle]
  · rw [drained, rxView_rxLoop other]

theorem rxView_foldl {l : List Nat} (others : p ∉ l) (s : State) : rxView p (l.foldl serialPort s) = rxView p s := by
  induction l generalizing s with
  | nil => rfl
  | cons i l ih =>
    obtain ⟨other, others⟩ := not_or.1 (mt List.mem_cons.2 others)
    exact (ih others _).trans (rxView_serialPort (Ne.symm other) s)

/-- Of a pass over distinct ports, port `p` and its RX queue see its own receive half only. -/
theorem rxView_foldl_of_mem {l : List Nat} (nodup : l.Nodup) (member : p ∈ l) (s : State) :
    ∃ t, rxView p t = rxView p s ∧ rxView p (l.foldl serialPort s) = rxView p (serialRx p t) := by
  induction l generalizing s with
  | nil => cases member
  | cons i l ih =>
    obtain ⟨first, nodup⟩ := List.nodup_cons.1 nodup
    rcases List.mem_cons.1 member with rfl | later
    · exact ⟨s, rfl, (rxView_foldl first _).trans (rxView_serialTx p p _)⟩
    · have other : i ≠ p := fun same => first (same ▸ later)
      obtain ⟨t, before, after⟩ := ih nodup later (serialPort s i)
      exact ⟨t, before.trans (rxView_serialPort other s), after⟩

end

section
variable {s : State} {p : Nat} {x : Port} {q : Queue}

/-- The drain of the RX side leaves the queue empty, whatever it held, and does not write lerr. -/
theorem rxLoop_drains (hx : s.ports[p]? = some x) (hq : s.queues[rxQueue p]? = some q) :
    ∃ q', (rxLoop p q.count.toNat s).queues[rxQueue p]? = some q' ∧ q'.count = 0 ∧ q'.lerr = q.lerr := by
  induction n : q.count.toNat generalizing s q x with
  | zero => exact ⟨q, hq, BitVec.eq_of_toNat_eq n, rfl⟩
  | succ m ih =>
    have held : q.count ≠ 0 := toNat_ne_zero_iff.1 (n ▸ Nat.succ_ne_zero m)
    have fewer : q.afterGet.count.toNat = m := Nat.succ_injective ((toNat_pred_succ held).symm.trans n)
    obtain ⟨b, e, taken⟩ := queueGet_of_held hq held
    rw [rxLoop_of_taken taken hx]
    exact ih (q := q.afterGet) (List.getElem?_set_self (List.getElem?_eq_some_iff.1 hx).1)
      (List.getElem?_set_self (List.getElem?_eq_some_iff.1 hq).1) fewer

end

/-- Settles O41: the pass is the fold of the halves; its frame is that of the serial pass, and what it does to an
RX queue is what the port's own receive half does. -/
theorem serialPassDrainsReceivers : Obligations.SerialPassDrainsReceivers := by
  refine ⟨fun s => rfl, fun s p x q hx hq idle => ?_, fun s p q => serialTx_of_uninitialised, fun s => ⟨_, rfl,
    congrArg (finish .ok) (serialPass_state s), fun p x q hx hq initialised => ?_⟩⟩
  · rcases idle with zero | ⟨noByte, noLine⟩
    · exact serialRx_of_uninitialised hx hq zero
    · exact serialRx_of_detached hx hq noByte noLine
  · have member : p ∈ List.range s.ports.length := List.mem_range.2 (List.getElem?_eq_some_iff.1 hx).1
    obtain ⟨t, before, after⟩ := rxView_foldl_of_mem List.nodup_range member s
    obtain ⟨port, queue⟩ := Prod.mk.inj before
    have result : (serialPass s).queues[rxQueue p]? = (serialRx p t).queues[rxQueue p]? := congrArg Prod.snd after
    have hx' : t.ports[p]? = some x := port.trans hx
    have hq' : t.queues[rxQueue p]? = some q := queue.trans hq
    refine ⟨fun attached => ?_, fun noByte noLine => ?_⟩
    · rw [serialRx_of_attached hx' hq' initialised attached] at result
      obtain ⟨q', drained, empty, lerr⟩ := rxLoop_drains hx' hq'
      exact ⟨q', result.trans drained, empty, lerr⟩
    · rw [serialRx_of_detached hx' hq' noByte noLine] at result
      exact result.trans hq'

end Sys2Proof.Machine

/-! ## Timers (42_timer.md): the timer commands, the timer pass, the alarm laws -/

namespace Sys2Proof.Machine

/-! ### The timer commands (R300..R310) -/

section
variable {s : State} {j : Nat} {x : Timer}

theorem onLiveTimer_of_refused
    (dead : s.timers.length ≤ j ∨ ∃ x, s.timers[j]? = some x ∧ x.state = .deleted) (k : Timer → State) :
    onLiveTimer j s k = raise .invalidArgument s := by
  rcases dead with absent | ⟨x, hx, deleted⟩
  · exact onLiveTimer_of_none (List.getElem?_eq_none absent) k
  · rw [onLiveTimer_of_some hx, if_pos deleted]

theorem onLiveTimer_of_live (hx : s.timers[j]? = some x) (live : x.state ≠ .deleted) (k : Timer → State) :
    onLiveTimer j s k = k x := by
  rw [onLiveTimer_of_some hx, if_neg live]

/-- The two checks of a create (R300) raise the same error, so their order cannot be told apart. -/
theorem createTimer_of_refused {period : Half} (bad : s.timers.length ≤ j ∨ period = 0) (mode : TimerMode) :
    createTimer mode j period s = raise .invalidArgument s := by
  rcases bad with absent | zero
  · exact onTimer_of_none (List.getElem?_eq_none absent) _
  · exact onTimer_induct (P := fun t => t = raise .invalidArgument s) rfl fun _ _ => if_pos zero

theorem createTimer_of_valid {period : Half} (inBank : j < s.timers.length) (nonzero : period ≠ 0) (mode : TimerMode) :
    createTimer mode j period s = finish .ok (setTimer j
      { state := .running, mode := mode, ticks := 0, reload := period, alarm := 0, cb := lowHalf s.arg0 } s) :=
  (onTimer_of_some (List.getElem?_eq_getElem inBank) _).trans (if_neg nonzero)

end

/-- Settles O44: both creates are `createTimer`, refused by its checks or done. -/
theorem timerCreate : Obligations.TimerCreate := by
  intro s i period
  refine ⟨fun bad => ⟨?_, ?_⟩, fun inBank nonzero => ⟨?_, ?_⟩⟩
  · exact congrArg Host.Outcome.next (createTimer_of_refused bad .interval)
  · exact congrArg Host.Outcome.next (createTimer_of_refused bad .timeout)
  · exact congrArg Host.Outcome.next (createTimer_of_valid inBank nonzero .interval)
  · exact congrArg Host.Outcome.next (createTimer_of_valid inBank nonzero .timeout)

/-- Settles O45: TLive, which TMR_DELETE alone does not take, then for TMR_PAUSE, TMR_RESUME and TMR_SET_PERIOD the
command's own check. -/
theorem timerControl : Obligations.TimerControl := by
  intro s i period cbw mode
  refine ⟨fun dead => ?_, fun absent => ?_, fun x hx => ⟨?_, fun live => ?_⟩⟩
  · have refused := onLiveTimer_of_refused dead
    simp only [List.forall_mem_cons]
    exact ⟨congrArg Host.Outcome.next (refused _), congrArg Host.Outcome.next (refused _),
      congrArg Host.Outcome.next (refused _), congrArg Host.Outcome.next (refused _),
      congrArg Host.Outcome.next (refused _), congrArg Host.Outcome.next (refused _),
      congrArg Host.Outcome.next (refused _), nofun⟩
  · exact congrArg Host.Outcome.next (onTimer_of_none (List.getElem?_eq_none absent) _)
  · exact congrArg Host.Outcome.next (onTimer_of_some hx _)
  · have body := onLiveTimer_of_live hx live
    refine ⟨?start, ?stop, fun running => ?_, fun idle => ?_, fun paused => ?_, fun unpaused => ?_, fun zero => ?_,
      fun nonzero => ?_, ?mode, ?callback⟩
    case start | stop | mode | callback => exact congrArg Host.Outcome.next (body _)
    · exact congrArg Host.Outcome.next ((body _).trans (if_pos running))
    · exact congrArg Host.Outcome.next ((body _).trans (if_neg idle))
    · exact congrArg Host.Outcome.next ((body _).trans (if_pos paused))
    · exact congrArg Host.Outcome.next ((body _).trans (if_neg unpaused))
    · exact congrArg Host.Outcome.next ((body _).trans (if_pos zero))
    · exact congrArg Host.Outcome.next ((body _).trans (if_neg nonzero))

/-! ### The step of one timer (R330) -/

section
variable {x : Timer} {i : Nat}

theorem timerStep_of_idle (idle : x.state ≠ .running) (i : Nat) : timerStep i x = (x, []) := if_neg idle

theorem timerStep_of_counting (running : x.state = .running) (early : x.ticks + 1 ≠ x.reload) (i : Nat) :
    timerStep i x = ({ x with ticks := x.ticks + 1 }, []) := by
  rw [timerStep, if_pos running, if_neg early]

theorem timerStep_of_interval (running : x.state = .running) (due : x.ticks + 1 = x.reload) (mode : x.mode = .interval)
    (i : Nat) : timerStep i x = ({ x with ticks := 0, alarm := x.alarm + 1 },
      fire x.cb fun tag => .tmrAlarm (BitVec.ofNat 8 i) tag (x.alarm + 1)) := by
  rw [timerStep, if_pos running, if_pos due, mode]

theorem timerStep_of_timeout (running : x.state = .running) (due : x.ticks + 1 = x.reload) (mode : x.mode = .timeout)
    (i : Nat) : timerStep i x = ({ x with ticks := x.ticks + 1, alarm := x.alarm + 1, state := .stopped },
      fire x.cb fun tag => .tmrAlarm (BitVec.ofNat 8 i) tag (x.alarm + 1)) := by
  rw [timerStep, if_pos running, if_pos due, mode]

/-- A timer's step reports nothing, or the timer's own alarm through its callback word. -/
theorem timerStep_records (i : Nat) (x : Timer) :
    (timerStep i x).2 = [] ∨
    (timerStep i x).2 = fire x.cb fun tag => .tmrAlarm (BitVec.ofNat 8 i) tag (x.alarm + 1) := by
  by_cases running : x.state = .running
  · by_cases due : x.ticks + 1 = x.reload
    · cases mode : x.mode with
      | interval => exact .inr (congrArg Prod.snd (timerStep_of_interval running due mode i))
      | timeout => exact .inr (congrArg Prod.snd (timerStep_of_timeout running due mode i))
    · exact .inl (congrArg Prod.snd (timerStep_of_counting running due i))
  · exact .inl (congrArg Prod.snd (timerStep_of_idle running i))

theorem id_of_mem_timerStep {r : Record} (member : r ∈ (timerStep i x).2) :
    ∃ tag alarm, r = .tmrAlarm (BitVec.ofNat 8 i) tag alarm := by
  rcases timerStep_records i x with silent | reported
  · simp [silent] at member
  · rw [reported, fire, List.mem_ite_nil_right, List.mem_singleton] at member
    exact ⟨_, _, member.2⟩

end

/-! ### The timer pass (R330, R312) -/

theorem timerSlot_of_some {s : State} {i : Nat} {x : Timer} (hx : s.timers[i]? = some x) :
    timerSlot s i = { s with timers := s.timers.set i (timerStep i x).1, out := s.out ++ (timerStep i x).2 } := by
  simp only [timerSlot, hx]
  rfl

/-- The first `k` slots of a timer pass: those timers have taken their step, the others stand as they were. -/
theorem timerSlots_eq (s : State) {k : Nat} (h : k ≤ s.timers.length) :
    (List.range k).foldl timerSlot s = { s with
      timers := ((s.timers.take k).mapIdx fun i x => (timerStep i x).1) ++ s.timers.drop k
      out := s.out ++ ((s.timers.take k).mapIdx fun i x => (timerStep i x).2).flatten } := by
  induction k with
  | zero => simp
  | succ k ih =>
    have inBank : k < s.timers.length := h
    have stepped : ((s.timers.take k).mapIdx fun i x => (timerStep i x).1).length = k := by simp [inBank.le]
    have next : (((s.timers.take k).mapIdx fun i x => (timerStep i x).1) ++ s.timers.drop k)[k]? = some s.timers[k] := by
      rw [List.getElem?_append_right stepped.le, stepped]
      simp [inBank]
    rw [List.range_succ, List.foldl_concat, ih inBank.le, timerSlot_of_some next, List.set_append_right _ _ stepped.le,
      stepped, Nat.sub_self, List.drop_eq_getElem_cons inBank, List.set_cons_zero, ← List.take_append_getElem inBank]
    simp [-List.take_append_getElem, inBank.le]

/-- Every timer takes its step on the fields it had before the pass. -/
theorem timerPass_eq (s : State) :
    timerPass s = { s with
      timers := s.timers.mapIdx fun i x => (timerStep i x).1
      out := s.out ++ (s.timers.mapIdx fun i x => (timerStep i x).2).flatten } := by
  have all := timerSlots_eq s le_rfl
  rwa [List.take_length, List.drop_length, List.append_nil] at all

/-- Settles O46: the closed form of the pass, and the branches of the step. The name `timerPass` is the model's. -/
theorem timerPassLaw : Obligations.TimerPass := by
  refine ⟨fun s => congrArg (fun t => Host.Outcome.next (finish .ok t)) (timerPass_eq s), fun i x => ⟨fun idle => ?_,
    fun running early => ?_, fun running due => ⟨fun mode => ?_, fun mode => ?_⟩⟩⟩
  · exact timerStep_of_idle idle i
  · exact timerStep_of_counting running early i
  · exact timerStep_of_interval running due mode i
  · exact timerStep_of_timeout running due mode i

/-! ### The alarm laws (R331)

A pass takes one timer by its own step, whatever the other timers do, and the alarms with its identifier are the
records of that step: identifiers are bytes, and no bank has more than 256 timers (R11). -/

/-- `t` holds timer `i` as `x`, and `alarms` are all its alarms on OUT. -/
structure TimerView (i : Byte) (t : State) (x : Timer) (alarms : List Record) : Prop where
  bank : t.timers.length ≤ 256
  timer : t.timers[i.toNat]? = some x
  alarms : t.out.filter (isAlarm i) = alarms

theorem flatten_mapIdx_of_others_nil {α β : Type} {f : Nat → α → List β} {l : List α} {k : Nat} {x : α}
    (hx : l[k]? = some x) (others : ∀ j y, l[j]? = some y → j ≠ k → f j y = []) : (l.mapIdx f).flatten = f k x := by
  induction l generalizing f k with
  | nil => simp at hx
  | cons y l ih =>
    rw [List.mapIdx_cons, List.flatten_cons]
    cases k with
    | zero =>
      have rest : (l.mapIdx fun j => f (j + 1)).flatten = [] := by
        simp only [List.flatten_eq_nil_iff, List.mem_mapIdx]
        rintro _ ⟨j, hj, rfl⟩
        exact others (j + 1) _ (List.getElem?_eq_getElem hj) (Nat.succ_ne_zero j)
      simp_all
    | succ k =>
      rw [others 0 y rfl (Nat.succ_ne_zero k).symm]
      exact ih (f := fun j => f (j + 1)) hx fun j z hz other => others (j + 1) z hz (by omega)

theorem map_mapIdx_eq {α β γ : Type} (g : β → γ) (f : Nat → α → β) (l : List α) :
    (l.mapIdx f).map g = l.mapIdx fun j y => g (f j y) :=
  List.ext_getElem? fun j => by simp [Function.comp_def]

theorem filter_timerStep_same (i : Byte) (x : Timer) :
    (timerStep i.toNat x).2.filter (isAlarm i) = (timerStep i.toNat x).2 := by
  refine List.filter_eq_self.2 fun r member => ?_
  obtain ⟨tag, alarm, rfl⟩ := id_of_mem_timerStep member
  simp [isAlarm]

theorem filter_timerStep_other {i : Byte} {j : Nat} (inBank : j < 256) (other : j ≠ i.toNat) (x : Timer) :
    (timerStep j x).2.filter (isAlarm i) = [] := by
  refine List.filter_eq_nil_iff.2 fun r member => ?_
  obtain ⟨tag, alarm, rfl⟩ := id_of_mem_timerStep member
  simp only [isAlarm, decide_eq_true_eq]
  rintro rfl
  simp at other
  omega

namespace TimerView

variable {i : Byte} {t : State} {x : Timer} {alarms : List Record}

theorem timerPass (h : TimerView i t x alarms) :
    TimerView i (timerPass t) (timerStep i.toNat x).1 (alarms ++ (timerStep i.toNat x).2) := by
  obtain ⟨bank, timer, rfl⟩ := h
  rw [timerPass_eq]
  refine ⟨by simpa using bank, by simp [timer], ?_⟩
  have mine := flatten_mapIdx_of_others_nil (f := fun j y => (timerStep j y).2.filter (isAlarm i)) timer
    fun j y hy other => filter_timerStep_other ((List.getElem?_eq_some_iff.1 hy).1.trans_le bank) other y
  rw [filter_timerStep_same] at mine
  simp only [List.filter_append, List.filter_flatten, map_mapIdx_eq, mine]

/-- A history of the timer and its alarms that each step of the timer continues is the history under the passes. -/
theorem iterate {timer : Nat → Timer} {since : Nat → List Record} (start : TimerView i t (timer 0) alarms)
    (noneYet : since 0 = []) (step : ∀ m, (timerStep i.toNat (timer m)).1 = timer (m + 1) ∧
      since m ++ (timerStep i.toNat (timer m)).2 = since (m + 1)) (m : Nat) :
    TimerView i (Machine.timerPass^[m] t) (timer m) (alarms ++ since m) := by
  induction m with
  | zero => simpa [noneYet] using start
  | succ m ih =>
    obtain ⟨next, reported⟩ := step m
    rw [Function.iterate_succ_apply', ← next, ← reported, ← List.append_assoc]
    exact ih.timerPass

end TimerView

/-- An interval timer `m` passes after its start (R331). -/
def intervalAfter (x : Timer) (m : Nat) : Timer :=
  { x with ticks := BitVec.ofNat 16 (m % x.reload.toNat), alarm := BitVec.ofNat 32 (m / x.reload.toNat) }

/-- The alarms of interval timer `i` in the first `m` passes: one for each full period (R331). -/
def intervalAlarms (i : Byte) (x : Timer) (m : Nat) : List Record :=
  (List.range (m / x.reload.toNat)).map fun k => .tmrAlarm i (x.cb.extractLsb' 0 15) (BitVec.ofNat 32 (k + 1))

/-- A timeout timer `m` passes after its start (R331). -/
def timeoutAfter (x : Timer) (m : Nat) : Timer :=
  if m < x.reload.toNat then { x with ticks := BitVec.ofNat 16 m }
  else { x with ticks := x.reload, alarm := 1, state := .stopped }

/-- The alarms of timeout timer `i` in the first `m` passes: one, once its period has passed (R331). -/
def timeoutAlarms (i : Byte) (x : Timer) (m : Nat) : List Record :=
  if m < x.reload.toNat then [] else [.tmrAlarm i (x.cb.extractLsb' 0 15) 1]

section
variable {x : Timer}

theorem intervalAfter_zero (ticks : x.ticks = 0) (alarm : x.alarm = 0) : intervalAfter x 0 = x := by
  cases x
  simp_all [intervalAfter]

theorem timeoutAfter_zero (ticks : x.ticks = 0) (nonzero : x.reload ≠ 0) : timeoutAfter x 0 = x := by
  rw [timeoutAfter, if_pos (toNat_pos nonzero)]
  cases x
  simp_all

/-- The 16-bit comparison of R330, on numbers: a count below the period does not wrap. -/
theorem ofNat_succ_eq_reload_iff {k : Nat} (below : k < x.reload.toNat) :
    BitVec.ofNat 16 k + 1 = x.reload ↔ k + 1 = x.reload.toNat := by
  have bound := x.reload.isLt
  rw [← BitVec.toNat_inj, BitVec.toNat_add, BitVec.toNat_ofNat]
  simp
  omega

theorem fire_of_enabled {cb : Half} (enabled : cb.getLsbD 15 = true) (mk : Tag → Record) :
    fire cb mk = [mk (cb.extractLsb' 0 15)] := if_pos enabled

theorem timerStep_intervalAfter (running : x.state = .running) (mode : x.mode = .interval) (nonzero : x.reload ≠ 0)
    (enabled : x.cb.getLsbD 15 = true) (i : Byte) (m : Nat) :
    (timerStep i.toNat (intervalAfter x m)).1 = intervalAfter x (m + 1) ∧
    intervalAlarms i x m ++ (timerStep i.toNat (intervalAfter x m)).2 = intervalAlarms i x (m + 1) := by
  have pos := toNat_pos nonzero
  have below : m % x.reload.toNat < x.reload.toNat := Nat.mod_lt m pos
  have parts := Nat.mod_add_div m x.reload.toNat
  by_cases due : m % x.reload.toNat + 1 = x.reload.toNat
  · obtain ⟨periods, ticks⟩ : (m + 1) / x.reload.toNat = m / x.reload.toNat + 1 ∧ (m + 1) % x.reload.toNat = 0 :=
      (Nat.div_mod_unique pos).2 ⟨by rw [Nat.mul_succ]; omega, pos⟩
    rw [timerStep_of_interval (x := intervalAfter x m) running ((ofNat_succ_eq_reload_iff below).2 due) mode,
      fire_of_enabled (cb := (intervalAfter x m).cb) enabled]
    simp [intervalAfter, intervalAlarms, periods, ticks, List.range_succ, BitVec.ofNat_add]
  · obtain ⟨periods, ticks⟩ : (m + 1) / x.reload.toNat = m / x.reload.toNat ∧
        (m + 1) % x.reload.toNat = m % x.reload.toNat + 1 :=
      (Nat.div_mod_unique pos).2 ⟨by omega, by omega⟩
    rw [timerStep_of_counting (x := intervalAfter x m) running (mt (ofNat_succ_eq_reload_iff below).1 due)]
    simp [intervalAfter, intervalAlarms, periods, ticks, BitVec.ofNat_add]

theorem timerStep_timeoutAfter (running : x.state = .running) (mode : x.mode = .timeout) (alarm : x.alarm = 0)
    (enabled : x.cb.getLsbD 15 = true) (i : Byte) (m : Nat) :
    (timerStep i.toNat (timeoutAfter x m)).1 = timeoutAfter x (m + 1) ∧
    timeoutAlarms i x m ++ (timerStep i.toNat (timeoutAfter x m)).2 = timeoutAlarms i x (m + 1) := by
  unfold timeoutAfter timeoutAlarms
  rcases Nat.lt_trichotomy (m + 1) x.reload.toNat with early | due | past
  · have before : m < x.reload.toNat := Nat.lt_of_succ_lt early
    rw [if_pos before, if_pos early, if_pos before, if_pos early,
      timerStep_of_counting (x := { x with ticks := BitVec.ofNat 16 m }) running
        (mt (ofNat_succ_eq_reload_iff before).1 early.ne)]
    simp [BitVec.ofNat_add]
  · have before : m < x.reload.toNat := Nat.lt_of_succ_le due.le
    have after : ¬ m + 1 < x.reload.toNat := due.not_lt
    have reached := (ofNat_succ_eq_reload_iff before).2 due
    rw [if_pos before, if_neg after, if_pos before, if_neg after,
      timerStep_of_timeout (x := { x with ticks := BitVec.ofNat 16 m }) running reached mode,
      fire_of_enabled (cb := x.cb) enabled]
    simp only [reached, alarm]
    simp
  · have after : ¬ m < x.reload.toNat := Nat.not_lt_of_le (Nat.le_of_lt_succ past)
    have after' : ¬ m + 1 < x.reload.toNat := past.not_gt
    rw [if_neg after, if_neg after', if_neg after, if_neg after', timerStep_of_idle (by simp), List.append_nil]
    exact ⟨rfl, rfl⟩

end

/-- Settles O47: the passes show the history of `intervalAfter` or `timeoutAfter`. -/
theorem timerLaws : Obligations.TimerLaws := by
  intro s i x m bank hx running ticks alarm nonzero enabled t n tag
  have start : TimerView i s x (s.out.filter (isAlarm i)) := ⟨bank, hx, rfl⟩
  refine ⟨fun mode => ?_, fun mode before => ?_, fun mode reached => ?_⟩
  · rw [← intervalAfter_zero ticks alarm] at start
    obtain ⟨-, timer, alarms⟩ :=
      start.iterate (by simp [intervalAlarms]) (timerStep_intervalAfter running mode nonzero enabled i) m
    exact ⟨timer, alarms⟩
  all_goals
    rw [← timeoutAfter_zero ticks nonzero] at start
    obtain ⟨-, timer, alarms⟩ :=
      start.iterate (if_pos (toNat_pos nonzero)) (timerStep_timeoutAfter running mode alarm enabled i) m
  · rw [timeoutAfter, if_pos before] at timer
    rw [timeoutAlarms, if_pos before, List.append_nil] at alarms
    exact ⟨timer, alarms⟩
  · rw [timeoutAfter, if_neg (Nat.not_lt.2 reached)] at timer
    rw [timeoutAlarms, if_neg (Nat.not_lt.2 reached)] at alarms
    exact ⟨timer, alarms⟩

end Sys2Proof.Machine

/-! ## Switches (43_switch.md): the switch commands, the switch pass, the switch laws -/

namespace Sys2Proof.Machine

/-! ### The switch commands (R351..R355) -/

section
variable {s : State} {j : Nat} {x : Switch}

theorem onSwitch_of_absent (absent : s.switches.length ≤ j) (k : Switch → State) :
    onSwitch j s k = raise .invalidArgument s := onSwitch_of_none (List.getElem?_eq_none absent) k

theorem onSwitch_of_lt (inBank : j < s.switches.length) (t : State) : (onSwitch j s fun _ => t) = t :=
  onSwitch_of_some (List.getElem?_eq_getElem inBank) _

/-- The checks of a create raise the same error, so the order of SCheck and a later one cannot be told apart. -/
theorem onSwitch_of_refused {t : State} (refused : s.switches.length ≤ j ∨ t = raise .invalidArgument s) :
    (onSwitch j s fun _ => t) = raise .invalidArgument s := by
  rcases refused with absent | rfl
  · exact onSwitch_of_absent absent _
  · exact onSwitch_induct (P := fun u => u = raise .invalidArgument s) rfl fun _ _ => rfl

theorem onLiveSwitch_of_refused
    (dead : s.switches.length ≤ j ∨ ∃ x, s.switches[j]? = some x ∧ x.valid = false) (k : Switch → State) :
    onLiveSwitch j s k = raise .invalidArgument s := by
  rcases dead with absent | ⟨x, hx, invalid⟩
  · exact onLiveSwitch_of_none (List.getElem?_eq_none absent) k
  · rw [onLiveSwitch_of_some hx, invalid]
    rfl

theorem onLiveSwitch_of_live (hx : s.switches[j]? = some x) (valid : x.valid = true) (k : Switch → State) :
    onLiveSwitch j s k = k x := by
  rw [onLiveSwitch_of_some hx, if_pos valid]

end

/-- Settles O48: SCheck or SLive, for the creates the channel and the debounce interval, then the switch is written. -/
theorem switchCommands : Obligations.SwitchCommands := by
  intro s i cbw d ach
  refine ⟨fun bad => ?_, fun inBank debounced => ?_, fun bad => ?_, fun inBank source debounced => ?_,
    fun absent => ?_, fun dead => ?_, fun x hx => ⟨?_, fun valid => ?_⟩⟩
  · exact congrArg Host.Outcome.next (onSwitch_of_refused (bad.imp_right fun zero => if_pos zero))
  · exact congrArg Host.Outcome.next ((onSwitch_of_lt inBank _).trans (if_neg debounced))
  · refine congrArg Host.Outcome.next (onSwitch_of_refused (bad.imp_right fun badArgument => ?_))
    rcases badArgument with noChannel | zero
    · exact if_pos noChannel
    · exact (ite_congr rfl (fun _ => rfl) fun _ => if_pos zero).trans (ite_self _)
  · exact congrArg Host.Outcome.next
      ((onSwitch_of_lt inBank _).trans ((if_neg (Nat.not_le.2 source)).trans (if_neg debounced)))
  · exact congrArg Host.Outcome.next (onSwitch_of_absent absent _)
  · exact congrArg Host.Outcome.next (onLiveSwitch_of_refused dead _)
  · exact congrArg Host.Outcome.next (onSwitch_of_some hx _)
  · exact congrArg Host.Outcome.next (onLiveSwitch_of_live hx valid _)

/-! ### The step of one switch (R380) -/

section
variable {x : Switch}

theorem switchStep_off_false (off : x.state = .off) (i : Nat) : switchStep i x false = ({ x with cnt := 0 }, []) := by
  simp only [switchStep, off]

theorem switchStep_off_true (off : x.state = .off) (i : Nat) :
    switchStep i x true =
      if x.debounce ≤ x.cnt + 1 then ({ x with state := .on, cnt := 0, rcnt := 0 }, switchEvent i x .on)
      else ({ x with cnt := x.cnt + 1 }, []) := by
  simp only [switchStep, off]

/-- An inactive sample is the same step in the three pressed states. -/
theorem switchStep_pressed_false (pressed : x.state ≠ .off) (i : Nat) :
    switchStep i x false =
      if x.debounce ≤ x.rcnt + 1 then ({ x with state := .off, cnt := 0, rcnt := 0 }, switchEvent i x .off)
      else ({ x with rcnt := x.rcnt + 1 }, []) := by
  cases hs : x.state with
  | off => exact absurd hs pressed
  | on | hold | repeating => simp only [switchStep, hs]

theorem switchStep_on_true (on : x.state = .on) (i : Nat) :
    switchStep i x true =
      if x.hold = 0 then ({ x with rcnt := 0 }, [])
      else if x.hold ≤ x.cnt + 1 then ({ x with state := .hold, cnt := 0, rcnt := 0 }, switchEvent i x .hold)
      else ({ x with cnt := x.cnt + 1, rcnt := 0 }, []) := by
  simp only [switchStep, on]

theorem switchStep_hold_true (hold : x.state = .hold) (i : Nat) :
    switchStep i x true =
      if x.rep = 0 then ({ x with rcnt := 0 }, [])
      else if x.rep ≤ x.cnt + 1 then ({ x with state := .repeating, cnt := 0, rcnt := 0 }, switchEvent i x .repeating)
      else ({ x with cnt := x.cnt + 1, rcnt := 0 }, []) := by
  simp only [switchStep, hold]

theorem switchStep_repeating_true (repeating : x.state = .repeating) (i : Nat) :
    switchStep i x true =
      if x.rep ≤ x.cnt + 1 then ({ x with state := .repeating, cnt := 0, rcnt := 0 }, switchEvent i x .repeating)
      else ({ x with cnt := x.cnt + 1, rcnt := 0 }, []) := by
  simp only [switchStep, repeating]

/-- The 16-bit comparison of R380, on numbers: a count that can go up does not wrap. -/
theorem le_succ_iff {limit cnt : Half} (canCount : cnt.toNat < 65535) :
    limit ≤ cnt + 1 ↔ limit.toNat ≤ cnt.toNat + 1 := by
  rw [BitVec.le_def, BitVec.toNat_add_of_lt (y := 1) (Nat.succ_lt_succ canCount)]
  rfl

end

/-! ### The sample of one switch (R370, R371) -/

section
variable {s : State} {x : Switch} {c : Channel}

theorem sampleAnalog_of_unusable (hc : s.channels[x.src.toNat]? = some c) (unusable : c.en = false ∨ c.primed = false) :
    sampleAnalog x s = (false, x) := by
  rcases unusable with disabled | unprimed
  · simp [sampleAnalog, hc, disabled]
  · simp [sampleAnalog, hc, unprimed]

theorem sampleAnalog_of_primed (hc : s.channels[x.src.toNat]? = some c) (en : c.en = true) (primed : c.primed = true) :
    sampleAnalog x s = (inWindow x c.raw, { x with data := c.raw }) := by
  simp [sampleAnalog, hc, en, primed]

theorem inWindow_iff (x : Switch) (r : Sample) :
    inWindow x r = true ↔ r.toNat ≤ x.onValue.toNat + x.tol.toNat ∧ x.onValue.toNat ≤ r.toNat + x.tol.toNat := by
  rw [inWindow, decide_eq_true_iff]
  omega

theorem sampleAnalog_congr {t : State} (channels : t.channels = s.channels) (x : Switch) :
    sampleAnalog x t = sampleAnalog x s := by
  rw [sampleAnalog, channels]
  rfl

end

/-! ### Announced pin levels (R21) -/

/-- The last announced answer at a key is given by every draw there. -/
theorem drawFrom_of_last {α : Type} {script : List (Nat × List α)} {k : Nat} {v : α}
    (announced : Table.lookup k script = some [v]) (free : α) : drawFrom script k free = (v, script) := by
  simp only [drawFrom, announced]

/-- No draw, at this key or another, uses up the last announced answer. -/
theorem lookup_drawFrom_of_last {α : Type} {script : List (Nat × List α)} {k : Nat} {v : α}
    (announced : Table.lookup k script = some [v]) (j : Nat) (free : α) :
    Table.lookup k (drawFrom script j free).2 = some [v] := by
  rcases eq_or_ne k j with rfl | other
  · rw [drawFrom_of_last announced, announced]
  · unfold drawFrom
    split
    · exact announced
    · exact (Table.lookup_insert_ne other _ _).trans announced
    · exact announced
    · exact announced

/-! ### The switch pass (R380, R357) -/

/-- One switch in the pass, when its pin draw answers `l`: its sample and its step, if it is valid. -/
def switchTurn (s : State) (l : Bool) (j : Nat) (x : Switch) : Switch × List Record :=
  if x.valid then switchStep j (switchSample s x l).2 (switchSample s x l).1 else (x, [])

/-- The state in which switch `k` takes its turn of the pass: the switches before it have taken theirs. -/
def switchesTaken (s : State) (k : Nat) : State := (List.range k).foldl switchSlot s

/-- The level the environment answers for each switch in the pass. -/
def answeredLevels (s : State) : List Bool := s.switches.mapIdx fun j x => (drawPin x.src (switchesTaken s j)).1

section
variable {s t : State} {j k : Nat} {x : Switch} {l : Bool}

/-- A turn reads nothing of the state but the analog channels. -/
theorem switchTurn_congr (channels : t.channels = s.channels) : switchTurn t = switchTurn s := by
  funext l j x
  simp only [switchTurn, switchSample, sampleAnalog_congr channels]

theorem switchSlot_of_some (hx : s.switches[j]? = some x) :
    switchSlot s j = { s with
      switches := s.switches.set j (switchTurn s (drawPin x.src s).1 j x).1
      out := s.out ++ (switchTurn s (drawPin x.src s).1 j x).2
      env := (switchSlot s j).env } := by
  obtain ⟨valid, mode⟩ := x
  cases valid with
  | false => simp [switchSlot, switchTurn, hx, set_of_getElem?_eq hx]
  | true =>
    simp only [switchSlot, hx]
    cases mode with
    | digital | analog => rfl

theorem switchSlot_keeps_last (announced : Table.lookup k s.env.pins = some [l]) (j : Nat) :
    Table.lookup k (switchSlot s j).env.pins = some [l] := by
  unfold switchSlot
  split
  · exact announced
  · split
    · split
      · exact lookup_drawFrom_of_last announced _ _
      · exact announced
    · exact announced

theorem answeredLevels_getElem? (hx : s.switches[j]? = some x) :
    (answeredLevels s)[j]? = some (drawPin x.src (switchesTaken s j)).1 := by
  simp [answeredLevels, hx]

theorem answeredLevels_of_announced (hx : s.switches[j]? = some x)
    (announced : Table.lookup x.src.toNat s.env.pins = some [l]) : (answeredLevels s)[j]? = some l := by
  have still : Table.lookup x.src.toNat (switchesTaken s j).env.pins = some [l] :=
    foldl_keeps (P := fun t => Table.lookup x.src.toNat t.env.pins = some [l])
      (fun _ i h => switchSlot_keeps_last h i) _ announced
  rw [answeredLevels_getElem? hx, drawPin, drawFrom_of_last still]

end

/-- A bank in which the first `k` objects have taken their turn `f` of a pass and the others stand as they were. -/
def bankAfter {α : Type} (f : Nat → α → α) (k : Nat) (l : List α) : List α := (l.take k).mapIdx f ++ l.drop k

section
variable {α : Type} {f : Nat → α → α} {l : List α} {k : Nat}

theorem bankAfter_zero (f : Nat → α → α) (l : List α) : bankAfter f 0 l = l := by simp [bankAfter]

theorem bankAfter_length (f : Nat → α → α) (l : List α) : bankAfter f l.length l = l.mapIdx f := by simp [bankAfter]

theorem bankAfter_eq_cons (inBank : k < l.length) :
    bankAfter f k l = (l.take k).mapIdx f ++ l[k] :: l.drop (k + 1) := by
  rw [bankAfter, List.drop_eq_getElem_cons inBank]

theorem length_mapIdx_take (f : Nat → α → α) (inBank : k < l.length) : ((l.take k).mapIdx f).length = k := by
  rw [List.length_mapIdx, List.length_take_of_le inBank.le]

theorem getElem?_bankAfter (inBank : k < l.length) : (bankAfter f k l)[k]? = some l[k] := by
  rw [bankAfter_eq_cons inBank, List.getElem?_append_right (length_mapIdx_take f inBank).le,
    length_mapIdx_take f inBank, Nat.sub_self, List.getElem?_cons_zero]

theorem mapIdx_take_succ {β : Type} (g : Nat → α → β) (inBank : k < l.length) :
    (l.take (k + 1)).mapIdx g = (l.take k).mapIdx g ++ [g k l[k]] := by
  rw [← List.take_append_getElem inBank, List.mapIdx_concat, List.length_take_of_le inBank.le]

theorem set_bankAfter (inBank : k < l.length) : (bankAfter f k l).set k (f k l[k]) = bankAfter f (k + 1) l := by
  rw [bankAfter_eq_cons inBank, bankAfter, mapIdx_take_succ f inBank,
    List.set_append_right _ _ (length_mapIdx_take f inBank).le, length_mapIdx_take f inBank, Nat.sub_self,
    List.set_cons_zero, List.append_assoc, List.singleton_append]

end

/-- The turn of switch `j` in the pass over `s`. -/
def passTurn (s : State) (j : Nat) (x : Switch) : Switch × List Record :=
  switchTurn s ((answeredLevels s).getD j false) j x

theorem switchesTaken_eq (s : State) {k : Nat} (h : k ≤ s.switches.length) :
    switchesTaken s k = { s with
      switches := bankAfter (fun j x => (passTurn s j x).1) k s.switches
      out := s.out ++ ((s.switches.take k).mapIdx fun j x => (passTurn s j x).2).flatten
      env := (switchesTaken s k).env } := by
  induction k with
  | zero => simp [switchesTaken, bankAfter_zero]
  | succ k ih =>
    have inBank : k < s.switches.length := h
    have before := ih inBank.le
    have next : (switchesTaken s k).switches[k]? = some s.switches[k] := by
      rw [before]; exact getElem?_bankAfter inBank
    have turn : switchTurn (switchesTaken s k) (drawPin s.switches[k].src (switchesTaken s k)).1 k s.switches[k] =
        passTurn s k s.switches[k] := by
      rw [passTurn, List.getD_eq_getElem?_getD, answeredLevels_getElem? (List.getElem?_eq_getElem inBank),
        switchTurn_congr (congrArg State.channels before)]
      rfl
    have slot : switchesTaken s (k + 1) = switchSlot (switchesTaken s k) k := by
      simp [switchesTaken, List.range_succ]
    rw [slot, switchSlot_of_some next, turn, mapIdx_take_succ _ inBank, ← set_bankAfter inBank, List.flatten_concat,
      ← List.append_assoc]
    generalize (switchSlot (switchesTaken s k) k).env = e
    rw [before]

/-- Every switch takes its turn on the fields it had before the pass. -/
theorem switchPass_eq (s : State) :
    switchPass s = { s with
      switches := s.switches.mapIdx fun j x => (passTurn s j x).1
      out := s.out ++ (s.switches.mapIdx fun j x => (passTurn s j x).2).flatten
      env := (switchPass s).env } := by
  have all := switchesTaken_eq s le_rfl
  rwa [bankAfter_length, List.take_length] at all

/-- Settles O49: the closed form of the pass, the window comparator, and the branches of the step on counters that do
not wrap. The name `switchPass` is the model's. -/
theorem switchPassLaw : Obligations.SwitchPass := by
  refine ⟨fun s => ⟨answeredLevels s, (switchPass s).env, List.length_mapIdx, ?pass, ?announced⟩,
    fun s x c hc => ⟨sampleAnalog_of_unusable hc, fun en primed => ?sample⟩, fun i x cntBound rcntBound => ?step⟩
  case pass => exact congrArg (fun t => Host.Outcome.next (finish .ok t)) (switchPass_eq s)
  case announced => exact fun j x l hx _ _ announced => answeredLevels_of_announced hx announced
  case sample =>
    rw [sampleAnalog_of_primed hc en primed]
    exact ⟨rfl, inWindow_iff x c.raw⟩
  case step =>
    simp only [← le_succ_iff cntBound, ← le_succ_iff rcntBound]
    exact ⟨fun off => ⟨switchStep_off_false off i, switchStep_off_true off i⟩,
      fun pressed => switchStep_pressed_false pressed i, fun on => switchStep_on_true on i,
      fun hold => switchStep_hold_true hold i, fun repeating => switchStep_repeating_true repeating i⟩

/-! ### The switch laws (R381)

In every state an active sample counts up to the window of that state, and the sample that fills the window moves the
switch to the next state and reports it. -/

/-- The interval `cnt` is compared with in the switch's state. -/
def Switch.window (x : Switch) : Half :=
  match x.state with
  | .off => x.debounce
  | .on => x.hold
  | .hold | .repeating => x.rep

/-- The state a switch enters when its window is full. -/
def SwitchState.next : SwitchState → SwitchState
  | .off => .on
  | .on => .hold
  | .hold | .repeating => .repeating

section
variable {i : Nat} {x : Switch}

theorem switchRun_append (i : Nat) (x : Switch) (as bs : List Bool) :
    switchRun i x (as ++ bs) = ((switchRun i (switchRun i x as).1 bs).1,
      (switchRun i x as).2 ++ (switchRun i (switchRun i x as).1 bs).2) := by
  induction as generalizing x with
  | nil => rfl
  | cons a as ih => simp only [List.cons_append, switchRun, ih, List.append_assoc]

theorem switchRun_concat {y : Switch} {as : List Bool} (silent : switchRun i x as = (y, [])) (a : Bool) :
    switchRun i x (as ++ [a]) = switchStep i y a := by
  simp [switchRun_append, silent, switchRun]

/-- The 16-bit comparison of R380 for the count `k`. -/
theorem le_ofNat_succ_iff {limit : Half} {k : Nat} (below : k < limit.toNat) :
    limit ≤ BitVec.ofNat 16 k + 1 ↔ limit.toNat ≤ k + 1 := by
  have bound := limit.isLt
  have value : (BitVec.ofNat 16 k).toNat = k := Nat.mod_eq_of_lt (below.trans bound)
  rw [le_succ_iff (by omega), value]

/-- The runs of one sample behind every law: a history that counts in silence up to `limit`, where the sample that
reaches it leads to `z` with the records `r`. -/
theorem switchRun_of_counting {y : Nat → Switch} {limit : Half} {a : Bool} {z : Switch} {r : List Record}
    (start : y 0 = x) (step : ∀ k < limit.toNat, switchStep i (y k) a =
      if limit ≤ BitVec.ofNat 16 k + 1 then (z, r) else (y (k + 1), [])) :
    (∀ k < limit.toNat, switchRun i x (List.replicate k a) = (y k, [])) ∧
    (limit ≠ 0 → switchRun i x (List.replicate limit.toNat a) = (z, r)) := by
  have counting : ∀ k < limit.toNat, switchRun i x (List.replicate k a) = (y k, []) := by
    intro k below
    induction k with
    | zero => rw [start]; rfl
    | succ k ih =>
      have before := Nat.lt_of_succ_lt below
      rw [List.replicate_succ', switchRun_concat (ih before), step k before,
        if_neg (mt (le_ofNat_succ_iff before).1 below.not_ge)]
  refine ⟨counting, fun nonzero => ?_⟩
  obtain ⟨k, last⟩ := Nat.exists_eq_succ_of_ne_zero (toNat_ne_zero_iff.2 nonzero)
  have before : k < limit.toNat := last ▸ k.lt_succ_self
  rw [last, List.replicate_succ', switchRun_concat (counting k before), step k before,
    if_pos ((le_ofNat_succ_iff before).2 last.le)]

/-- An active sample in any state whose window is not 0, when no release is being counted. -/
theorem switchStep_true (settled : x.state ≠ .off → x.rcnt = 0) (window : x.window ≠ 0) (i : Nat) :
    switchStep i x true =
      if x.window ≤ x.cnt + 1 then ({ x with state := x.state.next, cnt := 0, rcnt := 0 }, switchEvent i x x.state.next)
      else ({ x with cnt := x.cnt + 1 }, []) := by
  obtain ⟨_, _, _, _, _, _, state, _, rcnt, _, _, _, _, _⟩ := x
  cases state with
  | off => exact switchStep_off_true rfl i
  | on =>
    obtain rfl : rcnt = 0 := settled nofun
    exact (switchStep_on_true rfl i).trans (if_neg window)
  | hold =>
    obtain rfl : rcnt = 0 := settled nofun
    exact (switchStep_hold_true rfl i).trans (if_neg window)
  | repeating =>
    obtain rfl : rcnt = 0 := settled nofun
    exact switchStep_repeating_true rfl i

/-- Fewer active samples than the window only count, and the one that fills it moves the switch on. -/
theorem switchRun_true (settled : x.state ≠ .off → x.rcnt = 0) (cnt : x.cnt = 0) :
    (∀ k < x.window.toNat,
      switchRun i x (List.replicate k true) = ({ x with cnt := BitVec.ofNat 16 k }, [])) ∧
    (x.window ≠ 0 → switchRun i x (List.replicate x.window.toNat true) =
      ({ x with state := x.state.next, cnt := 0, rcnt := 0 }, switchEvent i x x.state.next)) := by
  have start : { x with cnt := BitVec.ofNat 16 0 } = x := by
    cases x
    simp_all
  refine switchRun_of_counting (y := fun k => { x with cnt := BitVec.ofNat 16 k }) start fun k below => ?_
  have window : x.window ≠ 0 := toNat_ne_zero_iff.1 (Nat.ne_zero_of_lt below)
  rw [BitVec.ofNat_add]
  exact switchStep_true (x := { x with cnt := BitVec.ofNat 16 k }) settled window i

/-- Fewer inactive samples than the debounce interval only count, and the one that fills it releases the switch. -/
theorem switchRun_false (pressed : x.state ≠ .off) (rcnt : x.rcnt = 0) :
    (∀ k < x.debounce.toNat,
      switchRun i x (List.replicate k false) = ({ x with rcnt := BitVec.ofNat 16 k }, [])) ∧
    (x.debounce ≠ 0 → switchRun i x (List.replicate x.debounce.toNat false) =
      ({ x with state := .off, cnt := 0, rcnt := 0 }, switchEvent i x .off)) := by
  have start : { x with rcnt := BitVec.ofNat 16 0 } = x := by
    cases x
    simp_all
  refine switchRun_of_counting (y := fun k => { x with rcnt := BitVec.ofNat 16 k }) start fun k _ => ?_
  rw [BitVec.ofNat_add]
  exact switchStep_pressed_false (x := { x with rcnt := BitVec.ofNat 16 k }) pressed i

end

/-- A held switch at its HOLD event and at its `n`-th REPEAT event. -/
def heldSwitch (x : Switch) (n : Nat) : Switch :=
  { x with state := if n = 0 then .hold else .repeating, cnt := 0 }

section
variable {i : Nat} {x : Switch}

theorem heldSwitch_window (x : Switch) (n : Nat) : (heldSwitch x n).window = x.rep := by
  cases n <;> rfl

theorem heldSwitch_next (x : Switch) (n : Nat) : (heldSwitch x n).state.next = .repeating := by
  cases n <;> rfl

/-- HOLD after H active samples, then one REPEAT after each R. -/
theorem switchRun_held (on : x.state = .on) (cnt : x.cnt = 0) (rcnt : x.rcnt = 0) (hold : x.hold ≠ 0)
    (rep : x.rep ≠ 0) (n : Nat) :
    switchRun i x (List.replicate (x.hold.toNat + x.rep.toNat * n) true) =
      (heldSwitch x n, switchEvent i x .hold ++ (List.replicate n (switchEvent i x .repeating)).flatten) := by
  induction n with
  | zero =>
    have window : x.window = x.hold := by simp only [Switch.window, on]
    have run := (switchRun_true (i := i) (fun _ => rcnt) cnt).2 (window ▸ hold)
    simpa [window, on, SwitchState.next, heldSwitch, ← rcnt] using run
  | succ n ih =>
    have window := heldSwitch_window x n
    have run := (switchRun_true (i := i) (x := heldSwitch x n) (fun _ => rcnt) rfl).2 (window ▸ rep)
    rw [window, heldSwitch_next] at run
    rw [Nat.mul_succ, ← Nat.add_assoc, List.replicate_add, switchRun_append, ih, run, List.replicate_succ',
      List.flatten_concat, List.append_assoc]
    simp [heldSwitch, switchEvent, rcnt]

end

/-- Settles O50: in every state the run is silent up to the window, and the sample that fills it moves the switch. -/
theorem switchLaws : Obligations.SwitchLaws := by
  intro i x debounced
  refine ⟨fun off cnt => ?press, fun on cnt rcnt hold rep n k below => ?held, fun pressed rcnt => ?release⟩
  case press =>
    have window : x.window = x.debounce := by simp only [Switch.window, off]
    obtain ⟨counting, full⟩ := switchRun_true (i := i) (fun pressed => absurd off pressed) cnt
    rw [window] at counting full
    refine ⟨fun k below => ⟨counting k below, ?_⟩, ?_⟩
    · have restart := switchStep_off_false (x := { x with cnt := BitVec.ofNat 16 k }) off i
      rw [switchRun_concat (counting k below), restart, ← cnt]
    · simpa only [off, SwitchState.next, ← cnt] using full debounced
  case held =>
    have counting := (switchRun_true (i := i) (x := heldSwitch x n) (fun _ => rcnt) rfl).1 k
      ((heldSwitch_window x n).symm ▸ below)
    rw [List.replicate_add, switchRun_append, switchRun_held on cnt rcnt hold rep, counting, List.append_nil]
    rfl
  case release =>
    obtain ⟨counting, full⟩ := switchRun_false (i := i) pressed rcnt
    exact ⟨counting, full debounced⟩

end Sys2Proof.Machine

/-! ## Analog channels (44_analog.md): the channel commands, the analog pass, the laws of change detection and sampling -/

namespace Sys2Proof.Machine

/-! ### The channel commands (R400, R402..R404) -/

section
variable {s : State} {j : Nat} {x : Channel}

theorem onChannel_of_absent (absent : s.channels.length ≤ j) (k : Channel → State) :
    onChannel j s k = raise .invalidArgument s := onChannel_of_none (List.getElem?_eq_none absent) k

theorem onLiveChannel_of_refused
    (dead : s.channels.length ≤ j ∨ ∃ x, s.channels[j]? = some x ∧ x.en = false) (k : Channel → State) :
    onLiveChannel j s k = raise .invalidArgument s := by
  rcases dead with absent | ⟨x, hx, disabled⟩
  · exact onLiveChannel_of_none (List.getElem?_eq_none absent) k
  · rw [onLiveChannel_of_some hx, disabled]
    rfl

theorem onLiveChannel_of_live (hx : s.channels[j]? = some x) (en : x.en = true) (k : Channel → State) :
    onLiveChannel j s k = k x := by
  rw [onLiveChannel_of_some hx, if_pos en]

end

/-- Settles O51: ACheck or ALive, for the create the shift, then the channel is written. -/
theorem analogCommands : Obligations.AnalogCommands := by
  intro s i sh
  refine ⟨fun bad => ?_, fun inBank valid => ?_, fun absent => ?_, fun dead => ?_, fun x hx => ⟨?_, fun en => ?_⟩⟩
  · refine congrArg Host.Outcome.next ?_
    rcases bad with absent | large
    · exact onChannel_of_absent absent _
    · exact onChannel_induct (P := fun t => t = raise .invalidArgument s) rfl fun _ _ => if_pos large
  · exact congrArg Host.Outcome.next
      ((onChannel_of_some (List.getElem?_eq_getElem inBank) _).trans (if_neg valid.not_gt))
  · exact congrArg Host.Outcome.next (onChannel_of_absent absent _)
  · exact congrArg Host.Outcome.next (onLiveChannel_of_refused dead _)
  · exact congrArg Host.Outcome.next (onChannel_of_some hx _)
  · exact congrArg Host.Outcome.next (onLiveChannel_of_live hx en _)

/-! ### Change detection on numbers (R401, R430) -/

theorem toNat_outputValue (x : Channel) (r : Sample) : (outputValue x r).toNat = r.toNat / 2 ^ x.shift.toNat := by
  rw [outputValue, BitVec.toNat_ushiftRight, Nat.shiftRight_eq_div_pow]

/-- Eleven bits hold every difference of two 10-bit values. -/
theorem toInt_sampleDelta (v prev : Sample) : (sampleDelta v prev).toInt = (v.toNat : Int) - prev.toNat := by
  have := v.isLt
  have := prev.isLt
  rw [sampleDelta, BitVec.toInt_sub, BitVec.toInt_setWidth, BitVec.toInt_setWidth]
  simp only [Int.bmod_def]
  omega

theorem sampleDelta_eq_ofInt (v prev : Sample) :
    sampleDelta v prev = BitVec.ofInt 11 ((v.toNat : Int) - prev.toNat) := by
  rw [← toInt_sampleDelta, BitVec.ofInt_toInt]

/-- The suppression counter after one more reading (R430). -/
def countUp (evc : Half) : Half := BitVec.ofNat 16 (Nat.min (evc.toNat + 1) 65535)

theorem countUp_eq (evc : Half) : countUp evc = if evc = 0xFFFF#16 then evc else evc + 1 := by
  split
  · next saturated => rw [saturated]; rfl
  · next below =>
    have bound := evc.isLt
    have notMax : evc.toNat ≠ 65535 := fun max => below (BitVec.eq_of_toNat_eq max)
    have room : (evc.toNat + 1).min 65535 = evc.toNat + 1 := Nat.min_eq_left (by omega)
    rw [countUp, room, BitVec.ofNat_add, BitVec.ofNat_toNat, BitVec.setWidth_eq]
    rfl

theorem toNat_countUp_le (evc : Half) : (countUp evc).toNat ≤ evc.toNat + 1 := by
  rw [countUp, BitVec.toNat_ofNat]
  exact (Nat.mod_le _ _).trans (Nat.min_le_left _ _)

theorem mem_fire {cb : Half} {mk : Tag → Record} {e : Record} (member : e ∈ fire cb mk) : ∃ tag, e = mk tag := by
  unfold fire at member
  split at member
  · exact ⟨_, List.mem_singleton.1 member⟩
  · exact absurd member List.not_mem_nil

/-- The reading with output value `v` is a change to report: it is off the last reported value by more than the
threshold, and the suppression interval has passed. -/
def Reports (x : Channel) (v : Sample) : Prop :=
  (x.primed = true ∧ x.thr.toNat < ((v.toNat : Int) - x.prev.toNat).natAbs) ∧ x.evi.toNat ≤ (countUp x.evc).toNat

theorem Reports.primed {x : Channel} {v : Sample} (h : Reports x v) : x.primed = true := by
  obtain ⟨⟨primed, -⟩, -⟩ := h
  exact primed

/-- What every later reading writes, whether it is reported or not. -/
def measured (x : Channel) (r : Sample) : Channel :=
  { x with
    raw := r
    min := if outputValue x r < x.min then outputValue x r else x.min
    max := if x.max < outputValue x r then outputValue x r else x.max
    delta := sampleDelta (outputValue x r) x.prev
    evc := countUp x.evc }

section
variable {x : Channel} {r : Sample}

theorem changeStep_of_unprimed (unprimed : x.primed = false) (i : Nat) :
    changeStep i x r =
      ({ x with raw := r, prev := outputValue x r, min := outputValue x r, max := outputValue x r, delta := 0,
                primed := true }, []) := by
  rw [changeStep, unprimed]
  rfl

theorem reports_iff (primed : x.primed = true) (v : Sample) :
    Reports x v ↔ x.thr.toNat < (sampleDelta v x.prev).toInt.natAbs ∧ x.evi ≤ countUp x.evc := by
  rw [Reports, toInt_sampleDelta, BitVec.le_def, and_iff_right primed]

theorem changeStep_of_reported (reported : Reports x (outputValue x r)) (i : Nat) :
    changeStep i x r = ({ measured x r with prev := outputValue x r, evc := 0 },
      fire x.ccb fun tag =>
        .adcChange (BitVec.ofNat 8 i) tag (outputValue x r) (sampleDelta (outputValue x r) x.prev)) := by
  simp only [changeStep, if_pos reported.primed, ← countUp_eq]
  rw [if_pos ((reports_iff reported.primed _).1 reported)]
  rfl

theorem changeStep_of_unreported (primed : x.primed = true) (unreported : ¬ Reports x (outputValue x r)) (i : Nat) :
    changeStep i x r = (measured x r, []) := by
  simp only [changeStep, if_pos primed, ← countUp_eq]
  rw [if_neg (mt (reports_iff primed _).2 unreported)]
  rfl

theorem changeStep_records_of_unreported (unreported : ¬ Reports x (outputValue x r)) (i : Nat) :
    (changeStep i x r).2 = [] := by
  cases primed : x.primed with
  | false => rw [changeStep_of_unprimed primed]
  | true => rw [changeStep_of_unreported primed unreported]

theorem changeStep_records_ne_nil_iff (i : Nat) :
    (changeStep i x r).2 ≠ [] ↔ Reports x (outputValue x r) ∧ x.ccb.getLsbD 15 = true := by
  by_cases reported : Reports x (outputValue x r)
  · rw [changeStep_of_reported reported, fire, and_iff_right reported]
    split
    · next enabled => exact iff_of_true (List.cons_ne_nil _ _) enabled
    · next disabled => exact iff_of_false (fun nonempty => nonempty rfl) disabled
  · exact iff_of_false (fun nonempty => nonempty (changeStep_records_of_unreported reported i)) fun h => reported h.1

/-- Every reading primes the channel and is kept as its latest raw value. -/
theorem changeStep_keeps_reading (i : Nat) (x : Channel) (r : Sample) :
    (changeStep i x r).1.primed = true ∧ (changeStep i x r).1.raw = r := by
  cases primed : x.primed with
  | false =>
    rw [changeStep_of_unprimed primed]
    exact ⟨rfl, rfl⟩
  | true =>
    by_cases reported : Reports x (outputValue x r)
    · rw [changeStep_of_reported reported]
      exact ⟨primed, rfl⟩
    · rw [changeStep_of_unreported primed reported]
      exact ⟨primed, rfl⟩

theorem isChange_of_mem_changeStep {i : Nat} {e : Record} (member : e ∈ (changeStep i x r).2) :
    isChange e = true ∧ isSample e = false := by
  by_cases reported : Reports x (outputValue x r)
  · rw [changeStep_of_reported reported] at member
    dsimp only at member
    obtain ⟨tag, rfl⟩ := mem_fire member
    exact ⟨rfl, rfl⟩
  · rw [changeStep_records_of_unreported reported] at member
    exact absurd member List.not_mem_nil

theorem isSample_of_mem_cadenceStep {i : Nat} {v : Sample} {e : Record} (member : e ∈ (cadenceStep i x v).2) :
    isSample e = true ∧ isChange e = false := by
  unfold cadenceStep at member
  split at member
  · exact absurd member List.not_mem_nil
  · split at member
    · dsimp only at member
      obtain ⟨tag, rfl⟩ := mem_fire member
      exact ⟨rfl, rfl⟩
    · exact absurd member List.not_mem_nil

end

/-! ### The step of one channel (R430) -/

/-- The sampling cadence on a counter that can count up (R430), in numbers. -/
theorem cadenceStep_eq {x : Channel} (canCount : x.scnt.toNat < 65535) (i : Nat) (v : Sample) :
    cadenceStep i x v =
      if x.si = 0 then (x, [])
      else if x.si.toNat ≤ x.scnt.toNat + 1 then
        ({ x with scnt := 0 }, fire x.scb fun tag => .adcSample (BitVec.ofNat 8 i) tag v)
      else ({ x with scnt := x.scnt + 1 }, []) := by
  simp only [cadenceStep, le_succ_iff canCount]

theorem changeStep_scnt (i : Nat) (x : Channel) (r : Sample) : (changeStep i x r).1.scnt = x.scnt := by
  rw [changeStep_frame]

/-- The two halves of the step do not meet: the cadence reads and writes nothing that change detection writes. -/
theorem cadenceStep_changeStep (i : Nat) (x : Channel) (r v : Sample) :
    cadenceStep i (changeStep i x r).1 v =
      ({ (changeStep i x r).1 with scnt := (cadenceStep i x v).1.scnt }, (cadenceStep i x v).2) := by
  rw [changeStep_frame]
  unfold cadenceStep
  repeat' split
  all_goals rfl

theorem channelStep_eq (i : Nat) (x : Channel) (r : Sample) :
    channelStep i x r = ({ (changeStep i x r).1 with scnt := (cadenceStep i x (outputValue x r)).1.scnt },
      (changeStep i x r).2 ++ (cadenceStep i x (outputValue x r)).2) := by
  rw [channelStep, cadenceStep_changeStep]

section
variable (i : Nat) (x : Channel) (r : Sample)

theorem channelStep_en : (channelStep i x r).1.en = x.en := by
  rw [channelStep_eq, changeStep_frame]

theorem channelStep_shift : (channelStep i x r).1.shift = x.shift := by
  rw [channelStep_eq, changeStep_frame]

theorem channelStep_evi : (channelStep i x r).1.evi = x.evi := by
  rw [channelStep_eq, changeStep_frame]

theorem channelStep_si : (channelStep i x r).1.si = x.si := by
  rw [channelStep_eq, changeStep_frame]

theorem channelStep_scb : (channelStep i x r).1.scb = x.scb := by
  rw [channelStep_eq, changeStep_frame]

theorem channelStep_primed : (channelStep i x r).1.primed = true := by
  rw [channelStep_eq, (changeStep_keeps_reading i x r).1]

theorem channelStep_raw : (channelStep i x r).1.raw = r := by
  rw [channelStep_eq, (changeStep_keeps_reading i x r).2]

theorem channelStep_evc : (channelStep i x r).1.evc = (changeStep i x r).1.evc := by
  rw [channelStep_eq]

theorem channelStep_scnt : (channelStep i x r).1.scnt = (cadenceStep i x (outputValue x r)).1.scnt := by
  rw [channelStep_eq]

theorem filter_isChange_channelStep : (channelStep i x r).2.filter isChange = (changeStep i x r).2 := by
  rw [channelStep_eq, List.filter_append, List.filter_eq_self.2 fun _ h => (isChange_of_mem_changeStep h).1,
    List.filter_eq_nil_iff.2 fun _ h => Bool.not_eq_true _ ▸ (isSample_of_mem_cadenceStep h).2, List.append_nil]

theorem filter_isSample_channelStep :
    (channelStep i x r).2.filter isSample = (cadenceStep i x (outputValue x r)).2 := by
  rw [channelStep_eq, List.filter_append, List.filter_eq_self.2 fun _ h => (isSample_of_mem_cadenceStep h).1,
    List.filter_eq_nil_iff.2 fun _ h => Bool.not_eq_true _ ▸ (isChange_of_mem_changeStep h).2, List.nil_append]

end

/-! ### Passes over a bank -/

/-- The state in which object `k` of a bank takes its turn of a pass: the objects before it have taken theirs. -/
def slotsTaken (slot : State → Nat → State) (s : State) (k : Nat) : State := (List.range k).foldl slot s

/-- A pass whose slots each write one object of the bank `bank` and append records: every object takes its turn on the
fields it had before the pass, in the state that the objects before it left. -/
theorem slotsTaken_eq {α : Type} {bank : State → List α} {slot : State → Nat → State}
    {turn : State → Nat → α → α × List Record}
    (slot_eq : ∀ {t j x}, (bank t)[j]? = some x →
      bank (slot t j) = (bank t).set j (turn t j x).1 ∧ (slot t j).out = t.out ++ (turn t j x).2)
    (s : State) {k : Nat} (h : k ≤ (bank s).length) :
    bank (slotsTaken slot s k) = bankAfter (fun j x => (turn (slotsTaken slot s j) j x).1) k (bank s) ∧
    (slotsTaken slot s k).out =
      s.out ++ (((bank s).take k).mapIdx fun j x => (turn (slotsTaken slot s j) j x).2).flatten := by
  induction k with
  | zero => simp [slotsTaken, bankAfter_zero]
  | succ k ih =>
    have inBank : k < (bank s).length := h
    obtain ⟨objects, records⟩ := ih inBank.le
    have next : (bank (slotsTaken slot s k))[k]? = some (bank s)[k] := by
      rw [objects]; exact getElem?_bankAfter inBank
    have last : slotsTaken slot s (k + 1) = slot (slotsTaken slot s k) k := by
      simp [slotsTaken, List.range_succ]
    obtain ⟨written, emitted⟩ := slot_eq next
    rw [last, written, emitted, records]
    refine ⟨?_, ?_⟩
    · rw [objects]; exact set_bankAfter inBank
    · rw [mapIdx_take_succ _ inBank, List.flatten_concat, List.append_assoc]

/-! ### The analog pass (R406, R430) -/

/-- One channel in the pass, when its draw answers `v`: its step, if it is enabled. -/
def channelTurn (v : Sample) (j : Nat) (x : Channel) : Channel × List Record :=
  if x.en then channelStep j x v else (x, [])

/-- The reading the environment answers for each channel in the pass. -/
def answeredReadings (s : State) : List Sample :=
  s.channels.mapIdx fun j x => (drawAdc x.ch (slotsTaken channelSlot s j)).1

section
variable {s : State} {j k : Nat} {x : Channel} {v : Sample}

theorem channelSlot_of_some (hx : s.channels[j]? = some x) :
    (channelSlot s j).channels = s.channels.set j (channelTurn (drawAdc x.ch s).1 j x).1 ∧
    (channelSlot s j).out = s.out ++ (channelTurn (drawAdc x.ch s).1 j x).2 := by
  cases en : x.en with
  | false => simp [channelSlot, channelTurn, hx, en, set_of_getElem?_eq hx]
  | true => simp [channelSlot, channelTurn, hx, en]

theorem channelSlot_keeps_last (announced : Table.lookup k s.env.adcs = some [v]) (j : Nat) :
    Table.lookup k (channelSlot s j).env.adcs = some [v] := by
  unfold channelSlot
  split
  · exact announced
  · split
    · exact lookup_drawFrom_of_last announced _ _
    · exact announced

theorem answeredReadings_getElem? (hx : s.channels[j]? = some x) :
    (answeredReadings s)[j]? = some (drawAdc x.ch (slotsTaken channelSlot s j)).1 := by
  simp [answeredReadings, hx]

theorem answeredReadings_of_announced (hx : s.channels[j]? = some x)
    (announced : Table.lookup x.ch.toNat s.env.adcs = some [v]) : (answeredReadings s)[j]? = some v := by
  have still : Table.lookup x.ch.toNat (slotsTaken channelSlot s j).env.adcs = some [v] :=
    foldl_keeps (P := fun t => Table.lookup x.ch.toNat t.env.adcs = some [v])
      (fun _ i h => channelSlot_keeps_last h i) _ announced
  rw [answeredReadings_getElem? hx, drawAdc, drawFrom_of_last still]

end

/-- Each channel's turn is the one on the reading answered for it. -/
theorem mapIdx_channelTurn {β : Type} (f : Channel × List Record → β) (s : State) :
    (s.channels.mapIdx fun j x => f (channelTurn (drawAdc x.ch (slotsTaken channelSlot s j)).1 j x)) =
      s.channels.mapIdx fun j x => f (channelTurn ((answeredReadings s).getD j 0) j x) :=
  List.mapIdx_eq_mapIdx_iff.2 fun j inBank => by
    rw [List.getD_eq_getElem?_getD, answeredReadings_getElem? (List.getElem?_eq_getElem inBank), Option.getD_some]

/-- Every channel takes its turn on the fields it had before the pass. -/
theorem analogPass_eq (s : State) :
    analogPass s = { s with
      channels := s.channels.mapIdx fun j x => (channelTurn ((answeredReadings s).getD j 0) j x).1
      out := s.out ++ (s.channels.mapIdx fun j x => (channelTurn ((answeredReadings s).getD j 0) j x).2).flatten
      env := (analogPass s).env } := by
  obtain ⟨channels, out⟩ := slotsTaken_eq (bank := State.channels) (slot := channelSlot)
    (turn := fun t j x => channelTurn (drawAdc x.ch t).1 j x) channelSlot_of_some s le_rfl
  rw [bankAfter_length, mapIdx_channelTurn Prod.fst] at channels
  rw [List.take_length, mapIdx_channelTurn Prod.snd] at out
  rw [← channels, ← out]
  exact analogPass_state s

/-- Settles O52: the closed form of the pass, and the branches of the two halves of the step on numbers. The name
`analogPass` is the model's. -/
theorem analogPassLaw : Obligations.AnalogPass := by
  refine ⟨fun s => ⟨answeredReadings s, (analogPass s).env, List.length_mapIdx, ?pass, ?announced⟩,
    fun i x r canCount => ?step⟩
  case pass => exact congrArg (fun t => Host.Outcome.next (finish .ok t)) (analogPass_eq s)
  case announced => exact fun j x v hx _ announced => answeredReadings_of_announced hx announced
  case step =>
    intro v d evc changed y change sample
    have value : outputValue x r = v := outputValue_eq x r
    have half : changeStep i x r = (y, change) := by
      by_cases reported : changed
      · have primed := Reports.primed reported
        rw [changeStep_of_reported (value ▸ reported)]
        simp [y, change, reported, primed, measured, fire, sampleDelta_eq_ofInt, value, d]
      · cases primed : x.primed with
        | false =>
          rw [changeStep_of_unprimed primed]
          simp [y, change, reported, primed, value]
        | true =>
          rw [changeStep_of_unreported primed (value ▸ reported)]
          simp [y, change, reported, primed, measured, sampleDelta_eq_ofInt, value, d, evc, countUp]
    rw [channelStep_eq, cadenceStep_eq canCount, half, value]
    have kept : y.scnt = x.scnt := (congrArg (fun t => t.1.scnt) half).symm.trans (changeStep_scnt i x r)
    split
    · rw [← kept, List.append_nil]
    · split
      · rfl
      · rw [List.append_nil]

/-! ### The laws of one channel (R431) -/

/-- Above the threshold, on natural numbers. -/
theorem lt_natAbs_sub_iff (thr v prev : Nat) :
    thr < ((v : Int) - prev).natAbs ↔ prev + thr < v ∨ v + thr < prev := by omega

section
variable {x : Channel}

/-- Until the suppression interval has passed, no pass reports a change. -/
theorem channelRun_suppressed (primed : x.primed = true) (vs : List Sample)
    (suppressed : x.evc.toNat + vs.length < x.evi.toNat) (i : Nat) :
    (channelRun i x vs).2.filter isChange = [] := by
  induction vs generalizing x with
  | nil => rfl
  | cons v vs ih =>
    rw [List.length_cons] at suppressed
    have counted : (countUp x.evc).toNat ≤ x.evc.toNat + 1 := toNat_countUp_le x.evc
    have unreported : ¬ Reports x (outputValue x v) := fun ⟨_, passed⟩ => by omega
    have evc : (channelStep i x v).1.evc = countUp x.evc := by
      rw [channelStep_evc, changeStep_of_unreported primed unreported]
      rfl
    have later := ih (channelStep_primed i x v) (by rw [evc, channelStep_evi]; omega)
    rw [channelRun, List.filter_append, filter_isChange_channelStep, changeStep_records_of_unreported unreported, later]
    rfl

/-- One pass moves the sampling cadence on by one: the counter goes up, or a sample stands for a whole interval. -/
theorem cadenceStep_counts (counts : x.si ≠ 0) (below : x.scnt.toNat < x.si.toNat) (enabled : x.scb.getLsbD 15 = true)
    (i : Nat) (v : Sample) :
    (cadenceStep i x v).1.scnt.toNat < x.si.toNat ∧
    (cadenceStep i x v).1.scnt.toNat + x.si.toNat * (cadenceStep i x v).2.length = x.scnt.toNat + 1 := by
  have bound := x.si.isLt
  have below' := (CounterBelow.cadenceStep ⟨fun zero => absurd zero counts, fun _ => below⟩ i v).2 counts
  refine ⟨below', ?_⟩
  rw [cadenceStep_eq (by omega), if_neg counts]
  split
  · next due =>
    rw [fire_of_enabled enabled]
    simp
    omega
  · next early =>
    exact BitVec.toNat_add_of_lt (y := 1) ((Nat.lt_of_not_le early).trans bound)

theorem channelRun_counts (counts : x.si ≠ 0) (below : x.scnt.toNat < x.si.toNat) (enabled : x.scb.getLsbD 15 = true)
    (i : Nat) (vs : List Sample) :
    (channelRun i x vs).1.scnt.toNat < x.si.toNat ∧
    (channelRun i x vs).1.scnt.toNat + x.si.toNat * ((channelRun i x vs).2.filter isSample).length =
      x.scnt.toNat + vs.length := by
  induction vs generalizing x with
  | nil => exact ⟨below, rfl⟩
  | cons v vs ih =>
    obtain ⟨first, firstCount⟩ := cadenceStep_counts counts below enabled i (outputValue x v)
    rw [← channelStep_scnt] at first firstCount
    rw [← filter_isSample_channelStep] at firstCount
    have si := channelStep_si i x v
    obtain ⟨last, laterCount⟩ := ih (si.symm ▸ counts) (si.symm ▸ first) (channelStep_scb i x v ▸ enabled)
    rw [si] at last laterCount
    rw [channelRun, List.filter_append, List.length_append, Nat.mul_add, List.length_cons]
    exact ⟨last, by dsimp only; omega⟩

end

/-- Settles O53: (a) to (c) from when a reading is reported, (d) from the cadence, which no reading touches, (e) from
the invariant of the channel. -/
theorem analogLaws : Obligations.AnalogLaws := by
  intro i x inv en
  refine ⟨fun v unprimed => ?priming, fun v primed unsuppressed enabled => ?threshold,
    fun v vs changed short => ?suppression, fun vs counts start enabled => ?sampling, fun v => ?extremes⟩
  case priming =>
    rw [filter_isChange_channelStep, changeStep_of_unprimed unprimed]
  case threshold =>
    rw [filter_isChange_channelStep, changeStep_records_ne_nil_iff, and_iff_left enabled, Reports, lt_natAbs_sub_iff,
      toNat_outputValue, unsuppressed, and_iff_right primed]
    exact and_iff_left (Nat.zero_le _)
  case suppression =>
    rw [filter_isChange_channelStep, changeStep_records_ne_nil_iff] at changed
    have evc : (channelStep i x v).1.evc = 0 := by
      rw [channelStep_evc, changeStep_of_reported changed.1]
    refine channelRun_suppressed (channelStep_primed i x v) vs ?_ i
    rw [evc, channelStep_evi]
    simpa using short
  case sampling =>
    have pos := toNat_pos counts
    obtain ⟨below, total⟩ := channelRun_counts counts (start ▸ pos) enabled i vs
    rw [start] at total
    obtain ⟨samples, scnt⟩ := (Nat.div_mod_unique pos).2 ⟨total.trans (Nat.zero_add _), below⟩
    rw [samples, scnt, BitVec.ofNat_toNat, BitVec.setWidth_eq]
    exact ⟨rfl, rfl⟩
  case extremes =>
    intro y out
    obtain ⟨-, extremes, -⟩ := channelInv_iff.1 (inv.channelStep i v) ((channelStep_en i x v).trans en)
    obtain ⟨minPrev, prevMax, minOut, outMax⟩ := extremes (channelStep_primed i x v)
    have value : (outputValue y y.raw).toNat = out := by
      rw [toNat_outputValue, channelStep_raw, channelStep_shift]
    exact ⟨channelStep_primed i x v, channelStep_raw i x v, minPrev, prevMax, value ▸ minOut, value ▸ outMax⟩

end Sys2Proof.Machine

/-! ## Pulse generators (45_pdsgen.md): the generator commands, the PDS pass, the pattern laws -/

namespace Sys2Proof.Machine

/-! ### Drives (R451, R452) -/

theorem progLevel_eq (st : Stage) : progLevel st = (st == .active) := by cases st <;> rfl

theorem drive_false (x : Pulse) : drive x false = ({ x with out := x.inv }, [.pinSet x.pin x.inv]) := by
  simp only [drive, Bool.false_xor]

theorem drive_true (x : Pulse) : drive x true = ({ x with out := !x.inv }, [.pinSet x.pin (!x.inv)]) := by
  simp only [drive, Bool.true_xor]

/-- The end of a pass drives the pin on a change of stage and on nothing else (R500). -/
theorem pulseStage_eq (x : Pulse) :
    pulseStage x =
      if stageOf x x.phase = x.stage then (x, [])
      else ({ x with stage := stageOf x x.phase, out := xor (stageOf x x.phase == .active) x.inv },
        [.pinSet x.pin (xor (stageOf x x.phase == .active) x.inv)]) := by
  simp only [pulseStage, drive, progLevel_eq]

/-- Completion drives the pin to rest level, which is the invert flag (R453, R452). -/
theorem complete_eq (x : Pulse) :
    complete x = ({ x with state := .completed, stage := .noStage, out := x.inv }, [.pinSet x.pin x.inv]) :=
  drive_false _

/-! ### The step of one generator (R500) -/

section
variable {x : Pulse}

theorem isPattern_iff : isPattern x = true ↔ x.mode = .oneshot ∨ x.mode = .repeating ∨ x.mode = .continuous := by
  unfold isPattern
  split <;> simp_all

theorem pulseStep_of_resting (rests : x.state ≠ .running ∨ isPattern x = false) : pulseStep x = (x, []) :=
  if_neg fun ⟨running, pattern⟩ => rests.elim (absurd running) (by simp [pattern])

theorem pulseStep_of_oneshot (running : x.state = .running) (mode : x.mode = .oneshot) :
    pulseStep x =
      if x.head.toNat + x.act.toNat ≤ (x.phase + 1).toNat then complete { x with phase := x.phase + 1 }
      else pulseStage { x with phase := x.phase + 1 } := by
  simp only [pulseStep, mode, if_pos (And.intro running (isPattern_iff.2 (.inl mode)))]

theorem pulseStep_of_repeating (running : x.state = .running) (mode : x.mode = .repeating) :
    pulseStep x =
      if x.total ≤ x.phase + 1 then
        if x.rem - 1 = 0 then complete { x with phase := 0, rem := x.rem - 1 }
        else pulseStage { x with phase := 0, rem := x.rem - 1 }
      else pulseStage { x with phase := x.phase + 1 } := by
  simp only [pulseStep, mode, if_pos (And.intro running (isPattern_iff.2 (.inr (.inl mode))))]

theorem pulseStep_of_continuous (running : x.state = .running) (mode : x.mode = .continuous) :
    pulseStep x =
      if x.total ≤ x.phase + 1 then pulseStage { x with phase := 0 }
      else pulseStage { x with phase := x.phase + 1 } := by
  simp only [pulseStep, mode, if_pos (And.intro running (isPattern_iff.2 (.inr (.inr mode))))]

theorem phase_succ_toNat (canCount : x.phase.toNat < 65535) : (x.phase + 1).toNat = x.phase.toNat + 1 :=
  BitVec.toNat_add_of_lt (y := 1) (Nat.succ_lt_succ canCount)

end

/-! ### The PDS pass and PDS_SYNC_ALL (R500, R462) -/

/-- A pass whose slots each write one generator, by a turn that reads no other generator, and append the records of
that turn. -/
theorem pulseTurns_eq {slot : State → Nat → State} {turn : Nat → Pulse → Pulse × List Record}
    (slot_eq : ∀ {t j x}, t.pulses[j]? = some x →
      (slot t j).pulses = t.pulses.set j (turn j x).1 ∧ (slot t j).out = t.out ++ (turn j x).2)
    {s t : State} (all : (List.range s.pulses.length).foldl slot s = t)
    (frame : t = { s with pulses := t.pulses, out := t.out }) :
    t = { s with
      pulses := s.pulses.mapIdx fun j x => (turn j x).1
      out := s.out ++ (s.pulses.mapIdx fun j x => (turn j x).2).flatten } := by
  obtain ⟨pulses, out⟩ := slotsTaken_eq (bank := State.pulses) (turn := fun _ => turn) slot_eq s le_rfl
  rw [bankAfter_length, slotsTaken, all] at pulses
  rw [List.take_length, slotsTaken, all] at out
  rw [← pulses, ← out]
  exact frame

theorem mapIdx_eq_map {α β : Type} (f : α → β) (l : List α) : (l.mapIdx fun _ x => f x) = l.map f :=
  List.ext_getElem? fun j => by simp

section
variable {s : State} {j : Nat} {x : Pulse}

theorem pulseSlot_of_some (hx : s.pulses[j]? = some x) :
    (pulseSlot s j).pulses = s.pulses.set j (pulseStep x).1 ∧ (pulseSlot s j).out = s.out ++ (pulseStep x).2 := by
  simp [pulseSlot, hx]

/-- Every generator takes its step on the fields it had before the pass. -/
theorem pulsePass_eq (s : State) :
    pulsePass s = { s with
      pulses := s.pulses.map fun x => (pulseStep x).1
      out := s.out ++ (s.pulses.map fun x => (pulseStep x).2).flatten } := by
  have all := pulseTurns_eq (turn := fun _ => pulseStep) pulseSlot_of_some rfl (pulsePass_state s)
  rwa [mapIdx_eq_map (fun x => (pulseStep x).1), mapIdx_eq_map (fun x => (pulseStep x).2)] at all

/-- Generator `j` in PDS_SYNC_ALL against the reference `r` in slot `ri`. -/
def syncTurn (ri : Nat) (r : Pulse) (j : Nat) (x : Pulse) : Pulse × List Record :=
  if j ≠ ri ∧ canSync x = true then syncCore x r else (x, [])

theorem syncSlot_of_some {ri : Nat} {r : Pulse} (hx : s.pulses[j]? = some x) :
    (syncSlot ri r s j).pulses = s.pulses.set j (syncTurn ri r j x).1 ∧
    (syncSlot ri r s j).out = s.out ++ (syncTurn ri r j x).2 := by
  by_cases takes : j ≠ ri ∧ canSync x = true
  · simp [syncSlot, syncTurn, hx, takes]
  · simp only [syncSlot, syncTurn, hx, if_neg takes]
    simp [set_of_getElem?_eq hx]

theorem syncCore_eq (dst src : Pulse) :
    syncCore dst src =
      ({ dst with phase := src.phase, stage := src.stage, out := xor (src.stage == .active) dst.inv },
        [.pinSet dst.pin (xor (src.stage == .active) dst.inv)]) := by
  simp only [syncCore, drive, progLevel_eq]

theorem onLivePulse_of_live (hx : s.pulses[j]? = some x) (live : x.state ≠ .deleted) (k : Pulse → State) :
    onLivePulse j s k = k x := by
  rw [onLivePulse_of_some hx, if_neg live]

theorem onLivePulse_of_refused
    (dead : s.pulses.length ≤ j ∨ ∃ x, s.pulses[j]? = some x ∧ x.state = .deleted) (k : Pulse → State) :
    onLivePulse j s k = raise .invalidArgument s := by
  rcases dead with absent | ⟨x, hx, deleted⟩
  · exact onLivePulse_of_none (List.getElem?_eq_none absent) k
  · rw [onLivePulse_of_some hx, if_pos deleted]

theorem canSync_eq_false_iff : canSync x = false ↔ isPattern x = false ∨ x.state ≠ .running := by
  simp only [canSync, Bool.and_eq_false_iff, decide_eq_false_iff_not]

end

/-- Settles O56: the closed form of the loop over the other generators. -/
theorem syncAllGenerators : Obligations.SyncAllGenerators := by
  intro s g r hr live
  refine ⟨fun bad => ?refused, fun pattern running => ?synced⟩
  case refused =>
    refine congrArg Host.Outcome.next ((onLivePulse_of_live hr live _).trans (if_neg ?_))
    rw [canSync_eq_false_iff.2 bad]
    nofun
  case synced =>
    intro takes lvl
    have turn (j : Nat) (x : Pulse) : syncTurn g.toNat r j x =
        if takes j x then ({ x with phase := r.phase, stage := r.stage, out := lvl x }, [.pinSet x.pin (lvl x)])
        else (x, []) := by
      simp only [syncTurn, syncCore_eq, canSync, takes, lvl, Bool.and_eq_true, decide_eq_true_eq, and_assoc]
    have synced := pulseTurns_eq (turn := syncTurn g.toNat r) syncSlot_of_some rfl
      (syncAll_state g.toNat r s (List.range s.pulses.length))
    simp only [turn, apply_ite Prod.fst, apply_ite Prod.snd] at synced
    refine congrArg Host.Outcome.next ((onLivePulse_of_live hr live _).trans
      ((if_pos (canSync_iff.2 ⟨running, pattern⟩)).trans ?_))
    rw [synced]
    rfl

/-- Settles O57: the closed form of the pass, and the branches of the step on numbers. The name `pulsePass` is the
model's. -/
theorem pulsePassLaw : Obligations.PulsePass := by
  refine ⟨fun s => congrArg (fun t => Host.Outcome.next (finish .ok t)) (pulsePass_eq s), fun x => ?_⟩
  intro completed goesOn
  have completes (phase rem : Half) : complete { x with phase := phase, rem := rem } = completed phase rem :=
    complete_eq _
  have continues (phase rem : Half) : pulseStage { x with phase := phase, rem := rem } = goesOn phase rem :=
    pulseStage_eq _
  refine ⟨pulseStep_of_resting, fun running canCount => ?_⟩
  refine ⟨fun mode => ?oneshot, fun mode => ?repeating, fun mode => ?continuous⟩
  case oneshot =>
    rw [pulseStep_of_oneshot running mode, phase_succ_toNat canCount, ← completes, ← continues]
  case repeating =>
    have last : x.rem - 1 = 0 ↔ x.rem = 1 := sub_eq_zero
    rw [pulseStep_of_repeating running mode, ← ite_not]
    simp only [le_succ_iff canCount, Nat.not_le, last, ← completes, ← continues]
    split
    · rfl
    · split
      · next one => rw [one]; rfl
      · rfl
  case continuous =>
    rw [pulseStep_of_continuous running mode, ← ite_not]
    simp only [le_succ_iff canCount, Nat.not_le, ← continues]

/-! ### What a step keeps, and the phase lock (R503) -/

section
variable {x : Pulse}

/-- All that a step can do. -/
theorem pulseStep_cases (x : Pulse) :
    (x.state ≠ .running ∨ isPattern x = false) ∧ pulseStep x = (x, []) ∨
    ∃ phase rem, pulseStep x = complete { x with phase := phase, rem := rem } ∨
      pulseStep x = pulseStage { x with phase := phase, rem := rem } := by
  by_cases rests : x.state ≠ .running ∨ isPattern x = false
  · exact .inl ⟨rests, pulseStep_of_resting rests⟩
  · rw [not_or, not_not, Bool.not_eq_false] at rests
    obtain ⟨running, pattern⟩ := rests
    rcases isPattern_iff.1 pattern with mode | mode | mode
    · rw [pulseStep_of_oneshot running mode]
      split
      · exact .inr ⟨_, _, .inl rfl⟩
      · exact .inr ⟨_, _, .inr rfl⟩
    · rw [pulseStep_of_repeating running mode]
      split
      · split
        · exact .inr ⟨_, _, .inl rfl⟩
        · exact .inr ⟨_, _, .inr rfl⟩
      · exact .inr ⟨_, _, .inr rfl⟩
    · rw [pulseStep_of_continuous running mode]
      split <;> exact .inr ⟨_, _, .inr rfl⟩

/-- A step keeps what the create command programmed. -/
theorem pulseStep_keeps (x : Pulse) : (pulseStep x).1.mode = x.mode ∧ (pulseStep x).1.total = x.total := by
  obtain ⟨-, same⟩ | ⟨phase, rem, completes | continues⟩ := pulseStep_cases x
  · rw [same]; exact ⟨rfl, rfl⟩
  · rw [completes]; exact ⟨rfl, rfl⟩
  · obtain ⟨out, frame⟩ := pulseStage_frame { x with phase := phase, rem := rem }
    rw [continues, frame]; exact ⟨rfl, rfl⟩

theorem isPattern_congr {y : Pulse} (mode : y.mode = x.mode) : isPattern y = isPattern x := by
  rw [isPattern, mode]
  rfl

theorem pulseRun_keeps (m : Nat) (x : Pulse) : (pulseRun m x).1.mode = x.mode ∧ (pulseRun m x).1.total = x.total := by
  induction m with
  | zero => exact ⟨rfl, rfl⟩
  | succ m ih =>
    obtain ⟨mode, total⟩ := ih
    obtain ⟨mode', total'⟩ := pulseStep_keeps (pulseRun m x).1
    exact ⟨mode'.trans mode, total'.trans total⟩

theorem PulseInv.pulseRun (h : PulseInv x) (m : Nat) : PulseInv (pulseRun m x).1 := by
  induction m with
  | zero => exact h
  | succ m ih => exact ih.pulseStep

/-- No step makes a generator run. -/
theorem running_of_pulseStep (after : (pulseStep x).1.state = .running) : x.state = .running :=
  of_not_not fun rests => rests (by rwa [pulseStep_of_resting (.inl rests)] at after)

theorem pulseStage_phase (x : Pulse) : (pulseStage x).1.phase = x.phase := by
  obtain ⟨out, frame⟩ := pulseStage_frame x
  rw [frame]

/-- As long as a generator runs, its phase counter counts modulo its period, whatever its mode. -/
theorem pulseStep_phase (h : PulseInv x) (pattern : isPattern x = true) (after : (pulseStep x).1.state = .running) :
    (pulseStep x).1.phase = if x.total ≤ x.phase + 1 then 0 else x.phase + 1 := by
  have running := running_of_pulseStep after
  rcases isPattern_iff.1 pattern with mode | mode | mode
  · obtain ⟨shape, -, -⟩ := h
    obtain ⟨-, -, -, total⟩ := shape ⟨by simp [running], pattern⟩
    rw [pulseStep_of_oneshot running mode, ← total mode] at after ⊢
    split at after
    · cases after
    · next early => rw [if_neg early, if_neg (mt BitVec.le_def.1 early), pulseStage_phase]
  · rw [pulseStep_of_repeating running mode] at after ⊢
    split at after
    · next due =>
      split at after
      · cases after
      · next notLast => rw [if_pos due, if_neg notLast, if_pos due, pulseStage_phase]
    · next early => rw [if_neg early, if_neg early, pulseStage_phase]
  · rw [pulseStep_of_continuous running mode]
    split <;> exact pulseStage_phase _

end

/-- Settles O59: while both run, both phase counters count modulo the same period. -/
theorem phaseLockHolds : Obligations.PhaseLockHolds := by
  intro x y m hx hy total phase patternX patternY
  induction m with
  | zero => exact fun _ _ => phase
  | succ m ih =>
    intro runsX runsY
    obtain ⟨modeX, totalX⟩ := pulseRun_keeps m x
    obtain ⟨modeY, totalY⟩ := pulseRun_keeps m y
    have before := ih (running_of_pulseStep runsX) (running_of_pulseStep runsY)
    have stepX := pulseStep_phase (hx.pulseRun m) ((isPattern_congr modeX).trans patternX) runsX
    have stepY := pulseStep_phase (hy.pulseRun m) ((isPattern_congr modeY).trans patternY) runsY
    rw [totalX, total, before, ← totalY] at stepX
    exact stepX.trans stepY.symm

/-! ### Polarity (R502) -/

/-- The outcome of an operation on a generator, with every level swapped. -/
def levelsSwapped (r : Pulse × List Record) : Pulse × List Record := (r.1.inverted, r.2.map Record.inverted)

section
variable {x : Pulse}

theorem drive_inverted (x : Pulse) (prog : Bool) : drive x.inverted prog = levelsSwapped (drive x prog) := by
  simp [drive, levelsSwapped, Pulse.inverted, Record.inverted]

theorem complete_inverted (x : Pulse) : complete x.inverted = levelsSwapped (complete x) :=
  drive_inverted { x with state := .completed, stage := .noStage } false

theorem pulseStage_inverted (x : Pulse) : pulseStage x.inverted = levelsSwapped (pulseStage x) := by
  refine Eq.trans ?_ (apply_ite levelsSwapped ..).symm
  exact ite_congr rfl (fun _ => rfl) fun _ => drive_inverted { x with stage := stageOf x x.phase } _

theorem pulseStep_inverted (x : Pulse) : pulseStep x.inverted = levelsSwapped (pulseStep x) := by
  by_cases rests : x.state ≠ .running ∨ isPattern x = false
  · rw [pulseStep_of_resting (x := x.inverted) rests, pulseStep_of_resting rests]
    rfl
  · rw [not_or, not_not, Bool.not_eq_false] at rests
    obtain ⟨running, pattern⟩ := rests
    have completes (phase rem : Half) := complete_inverted { x with phase := phase, rem := rem }
    have continues (phase rem : Half) := pulseStage_inverted { x with phase := phase, rem := rem }
    rcases isPattern_iff.1 pattern with mode | mode | mode
    · rw [pulseStep_of_oneshot (x := x.inverted) running mode, pulseStep_of_oneshot running mode,
        apply_ite levelsSwapped, ← completes, ← continues]
      rfl
    · rw [pulseStep_of_repeating (x := x.inverted) running mode, pulseStep_of_repeating running mode,
        apply_ite levelsSwapped, apply_ite levelsSwapped, ← completes, ← continues, ← continues]
      rfl
    · rw [pulseStep_of_continuous (x := x.inverted) running mode, pulseStep_of_continuous running mode,
        apply_ite levelsSwapped, ← continues, ← continues]
      rfl

theorem pulseRun_inverted (m : Nat) (x : Pulse) : pulseRun m x.inverted = levelsSwapped (pulseRun m x) := by
  induction m with
  | zero => rfl
  | succ m ih =>
    have step : pulseStep (pulseRun m x.inverted).1 = levelsSwapped (pulseStep (pulseRun m x).1) := by
      rw [ih]
      exact pulseStep_inverted _
    simp only [pulseRun, step]
    simp only [ih, levelsSwapped, List.map_append]

theorem restart_of_pattern (pattern : isPattern x = true) :
    restart x = drive { x with state := .running, phase := 0, rem := x.cycles, stage := stageOf x 0 }
      (progLevel (stageOf x 0)) := if_pos pattern

theorem restart_of_idle (mode : x.mode = .idle) : restart x = ({ x with state := .running }, []) := by
  simp only [restart, isPattern, mode, if_true, if_false, Bool.false_eq_true]

theorem restart_of_static (static : isPattern x = false) (notIdle : x.mode ≠ .idle) :
    restart x = drive { x with state := .running } (staticLevel x) := by
  simp only [restart, static, if_neg notIdle]
  rfl

theorem restart_inverted (x : Pulse) : restart x.inverted = levelsSwapped (restart x) := by
  by_cases pattern : isPattern x = true
  · rw [restart_of_pattern (x := x.inverted) pattern, restart_of_pattern pattern]
    exact drive_inverted { x with state := .running, phase := 0, rem := x.cycles, stage := stageOf x 0 } _
  · rw [Bool.not_eq_true] at pattern
    by_cases idle : x.mode = .idle
    · rw [restart_of_idle (x := x.inverted) idle, restart_of_idle idle]
      rfl
    · rw [restart_of_static (x := x.inverted) pattern idle, restart_of_static pattern idle]
      exact drive_inverted { x with state := .running } _

end

/-- Settles O60: each step and the restart commute with the swap of the levels. -/
theorem invertSwapsLevels : Obligations.InvertSwapsLevels :=
  fun x m => ⟨pulseRun_inverted m x, restart_inverted x⟩

end Sys2Proof.Machine

namespace Sys2Proof.Machine

/-! ### The pattern laws (R501)

A generator that is not commanded is at phase `m % T` of cycle `m / T` after pass `m`, until its last cycle has ended. -/

/-- The stage at position `k` of the cycle (R451), for every number `k`. -/
def stageAt (x : Pulse) (k : Nat) : Stage :=
  if k < x.head.toNat then .head else if k < x.head.toNat + x.act.toNat then .active else .tail

/-- What a pass that moves a generator from position `k` to position `l` emits. -/
def stageChange (x : Pulse) (k l : Nat) : List Record :=
  if stageAt x l = stageAt x k then [] else [.pinSet x.pin (xor (stageAt x l == .active) x.inv)]

/-- The cycles left of a repeat after `n` whole cycles; the other modes do not count them. -/
def cyclesLeft (x : Pulse) (n : Nat) : Half :=
  if x.mode = .repeating then x.cycles - BitVec.ofNat 16 n else x.rem

/-- The pattern has ended after `n` whole cycles: a oneshot has one, a repeat has C, a continuous one goes on. -/
def EndsBy (x : Pulse) (n : Nat) : Prop :=
  (x.mode = .oneshot ∧ 1 ≤ n) ∨ (x.mode = .repeating ∧ x.cycles.toNat ≤ n)

/-- Generator `x` at position `k` of its cycle, after `n` whole cycles. -/
def onCourse (x : Pulse) (n k : Nat) (out : Bool) : Pulse :=
  { x with phase := BitVec.ofNat 16 k, rem := cyclesLeft x n, stage := stageAt x k, out := out }

/-- Generator `x` after its last cycle. -/
def ended (x : Pulse) : Pulse :=
  { x with
    state := .completed, stage := .noStage, out := x.inv
    phase := if x.mode = .repeating then 0 else x.total
    rem := if x.mode = .repeating then 0 else x.rem }

section
variable {x : Pulse} {n k m : Nat} {out : Bool}

theorem endsBy_oneshot (mode : x.mode = .oneshot) : EndsBy x n ↔ 1 ≤ n := by simp [EndsBy, mode]

theorem not_endsBy_of_lt_total (mode : x.mode = .oneshot) (early : m < x.total.toNat) :
    ¬ EndsBy x (m / x.total.toNat) := by
  rw [Nat.div_eq_of_lt early, endsBy_oneshot mode]
  decide

theorem endsBy_repeating (mode : x.mode = .repeating) : EndsBy x n ↔ x.cycles.toNat ≤ n := by simp [EndsBy, mode]

theorem not_endsBy_continuous (mode : x.mode = .continuous) : ¬ EndsBy x n := by simp [EndsBy, mode]

theorem cyclesLeft_of_repeating (mode : x.mode = .repeating) (n : Nat) :
    cyclesLeft x n = x.cycles - BitVec.ofNat 16 n := if_pos mode

theorem cyclesLeft_of_continuous (mode : x.mode = .continuous) (n : Nat) : cyclesLeft x n = x.rem :=
  if_neg (by simp [mode])

/-- A whole cycle takes one off the cycles left of a repeat, and the last one leaves none. -/
theorem cyclesLeft_sub_one (mode : x.mode = .repeating) (n : Nat) : cyclesLeft x n - 1 = cyclesLeft x (n + 1) := by
  rw [cyclesLeft_of_repeating mode, cyclesLeft_of_repeating mode, BitVec.ofNat_add, sub_sub]
  rfl

theorem cyclesLeft_eq_zero_iff (mode : x.mode = .repeating) (bound : n ≤ x.cycles.toNat) :
    cyclesLeft x n = 0 ↔ EndsBy x n := by
  have := x.cycles.isLt
  rw [cyclesLeft_of_repeating mode, endsBy_repeating mode, sub_eq_zero, ← BitVec.toNat_inj, BitVec.toNat_ofNat,
    Nat.mod_eq_of_lt (by omega)]
  omega

/-- The phase counter has counted up to the period. -/
theorem phase_succ_of_due (due : k + 1 = x.total.toNat) : BitVec.ofNat 16 k + 1 = x.total :=
  BitVec.eq_of_toNat_eq (by have := x.total.isLt; simp; omega)

/-- The end of a pass whose phase counter has been set to `l`. -/
theorem pulseStage_onCourse (x : Pulse) (n n' k : Nat) {l : Nat} (bound : l < 65536) (out : Bool) :
    ∃ out', pulseStage { onCourse x n k out with phase := BitVec.ofNat 16 l, rem := cyclesLeft x n' } =
      (onCourse x n' l out', stageChange x k l) := by
  have stage : stageOf { onCourse x n k out with phase := BitVec.ofNat 16 l, rem := cyclesLeft x n' }
      (BitVec.ofNat 16 l) = stageAt x l := by
    simp only [stageOf, BitVec.toNat_ofNat, Nat.mod_eq_of_lt bound]
    rfl
  rw [pulseStage_eq, stage]
  by_cases same : stageAt x l = stageAt x k
  · refine ⟨out, (if_pos same).trans ?_⟩
    simp only [onCourse, stageChange, same, if_true]
  · refine ⟨xor (stageAt x l == .active) x.inv, (if_neg same).trans ?_⟩
    simp only [onCourse, stageChange, same, if_false]

section
variable (running : x.state = .running) (pattern : isPattern x = true)
include running pattern

/-- At the end of a cycle that is not the last the generator starts the next one. -/
theorem pulseStep_wraps (due : k + 1 = x.total.toNat) (goesOn : ¬ EndsBy x (n + 1)) (out : Bool) :
    ∃ out', pulseStep (onCourse x n k out) = (onCourse x (n + 1) 0 out', stageChange x k 0) := by
  have next : (onCourse x n k out).phase + 1 = x.total := phase_succ_of_due due
  obtain ⟨out', moved⟩ := pulseStage_onCourse x n (n + 1) k (l := 0) (by decide) out
  rcases isPattern_iff.1 pattern with mode | mode | mode
  · exact absurd ((endsBy_oneshot mode).2 (Nat.le_add_left 1 n)) goesOn
  · have left := cyclesLeft_sub_one mode n
    have someLeft : cyclesLeft x n - 1 ≠ 0 := by
      have early := (endsBy_repeating mode).not.1 goesOn
      rwa [left, Ne, cyclesLeft_eq_zero_iff mode (Nat.not_le.1 early).le]
    rw [← left] at moved
    rw [pulseStep_of_repeating (x := onCourse x n k out) running mode, next]
    exact ⟨out', (if_pos (BitVec.le_refl _)).trans ((if_neg someLeft).trans moved)⟩
  · rw [cyclesLeft_of_continuous mode (n + 1), ← cyclesLeft_of_continuous mode n] at moved
    rw [pulseStep_of_continuous (x := onCourse x n k out) running mode, next]
    exact ⟨out', (if_pos (BitVec.le_refl _)).trans moved⟩

variable (shape : PulseShape x)
include shape

/-- In the middle of a cycle the generator goes on to the next position. -/
theorem pulseStep_within (within : k + 1 < x.total.toNat) (n : Nat) (out : Bool) :
    ∃ out', pulseStep (onCourse x n k out) = (onCourse x n (k + 1) out', stageChange x k (k + 1)) := by
  have bound := x.total.isLt
  have next : (onCourse x n k out).phase + 1 = BitVec.ofNat 16 (k + 1) := (BitVec.ofNat_add ..).symm
  have value : (BitVec.ofNat 16 (k + 1)).toNat = k + 1 := Nat.mod_eq_of_lt (within.trans bound)
  have early : ¬ x.total ≤ BitVec.ofNat 16 (k + 1) := by
    rw [BitVec.le_def, value]
    exact within.not_ge
  obtain ⟨out', moved⟩ := pulseStage_onCourse x n n k (within.trans bound) out
  obtain ⟨-, -, -, total⟩ := shape ⟨by simp [running], pattern⟩
  rcases isPattern_iff.1 pattern with mode | mode | mode
  · have early' : ¬ x.head.toNat + x.act.toNat ≤ (BitVec.ofNat 16 (k + 1)).toNat := total mode ▸ early
    rw [pulseStep_of_oneshot (x := onCourse x n k out) running mode, next]
    exact ⟨out', (if_neg early').trans moved⟩
  · rw [pulseStep_of_repeating (x := onCourse x n k out) running mode, next]
    exact ⟨out', (if_neg early).trans moved⟩
  · rw [pulseStep_of_continuous (x := onCourse x n k out) running mode, next]
    exact ⟨out', (if_neg early).trans moved⟩

/-- At the end of its last cycle the generator completes. -/
theorem pulseStep_ends (due : k + 1 = x.total.toNat) (ends : EndsBy x (n + 1)) (unended : ¬ EndsBy x n) (out : Bool) :
    pulseStep (onCourse x n k out) = (ended x, [.pinSet x.pin x.inv]) := by
  have next : (onCourse x n k out).phase + 1 = x.total := phase_succ_of_due due
  obtain ⟨-, -, -, total⟩ := shape ⟨by simp [running], pattern⟩
  rcases isPattern_iff.1 pattern with mode | mode | mode
  · rw [pulseStep_of_oneshot (x := onCourse x n k out) running mode, next]
    refine (if_pos (total mode).ge).trans ?_
    rw [complete_eq]
    simp [ended, onCourse, cyclesLeft, mode]
  · have last : cyclesLeft x n - 1 = 0 := by
      have early := (endsBy_repeating mode).not.1 unended
      rwa [cyclesLeft_sub_one mode, cyclesLeft_eq_zero_iff mode (Nat.not_le.1 early)]
    rw [pulseStep_of_repeating (x := onCourse x n k out) running mode, next]
    refine (if_pos (BitVec.le_refl _)).trans ((if_pos last).trans ?_)
    rw [complete_eq]
    simpa [ended, onCourse, mode] using last
  · exact absurd ends (not_endsBy_continuous mode)

/-- From one pass to the next a generator goes on to the next position or cycle, or completes. -/
theorem pulseStep_onCourse (unended : ¬ EndsBy x (m / x.total.toNat)) (out : Bool) :
    (EndsBy x ((m + 1) / x.total.toNat) →
      pulseStep (onCourse x (m / x.total.toNat) (m % x.total.toNat) out) = (ended x, [.pinSet x.pin x.inv])) ∧
    (¬ EndsBy x ((m + 1) / x.total.toNat) →
      ∃ out', pulseStep (onCourse x (m / x.total.toNat) (m % x.total.toNat) out) =
        (onCourse x ((m + 1) / x.total.toNat) ((m + 1) % x.total.toNat) out',
          stageChange x (m % x.total.toNat) ((m + 1) % x.total.toNat))) := by
  obtain ⟨nonzero, -, -, -⟩ := shape ⟨by simp [running], pattern⟩
  have pos := toNat_pos nonzero
  have below : m % x.total.toNat < x.total.toNat := Nat.mod_lt m pos
  have parts := Nat.mod_add_div m x.total.toNat
  by_cases due : m % x.total.toNat + 1 = x.total.toNat
  · obtain ⟨cycle, position⟩ : (m + 1) / x.total.toNat = m / x.total.toNat + 1 ∧ (m + 1) % x.total.toNat = 0 :=
      (Nat.div_mod_unique pos).2 ⟨by rw [Nat.mul_succ]; omega, pos⟩
    rw [cycle, position]
    exact ⟨fun ends => pulseStep_ends running pattern shape due ends unended out,
      fun goesOn => pulseStep_wraps running pattern due goesOn out⟩
  · obtain ⟨cycle, position⟩ : (m + 1) / x.total.toNat = m / x.total.toNat ∧
        (m + 1) % x.total.toNat = m % x.total.toNat + 1 :=
      (Nat.div_mod_unique pos).2 ⟨by omega, by omega⟩
    rw [cycle, position]
    exact ⟨fun ends => absurd ends unended, fun _ => pulseStep_within running pattern shape (by omega) _ out⟩

end

/-- A generator fresh from its create command: running a pattern of valid durations, at the start of its first cycle. -/
structure Fresh (x : Pulse) : Prop where
  running : x.state = .running
  pattern : isPattern x = true
  shape : PulseShape x
  phase : x.phase = 0
  rem : x.rem = x.cycles
  stage : x.stage = stageAt x 0

theorem EndsBy.mono {n' : Nat} (h : EndsBy x n) (le : n ≤ n') : EndsBy x n' :=
  h.imp (And.imp_right fun one => one.trans le) (And.imp_right fun all => all.trans le)

namespace Fresh

variable (fresh : Fresh x)
include fresh

theorem total_pos : 0 < x.total.toNat := by
  obtain ⟨nonzero, -, -, -⟩ := fresh.shape ⟨by simp [fresh.running], fresh.pattern⟩
  exact toNat_pos nonzero

theorem not_endsBy_zero : ¬ EndsBy x 0 := by
  obtain ⟨-, -, cycles, -⟩ := fresh.shape ⟨by simp [fresh.running], fresh.pattern⟩
  rintro (⟨-, one⟩ | ⟨mode, none⟩)
  · exact absurd one (by decide)
  · exact absurd none (toNat_pos (cycles mode)).not_ge

theorem onCourse_zero : onCourse x 0 0 x.out = x := by
  have rem : cyclesLeft x 0 = x.rem := by simp [cyclesLeft, fresh.rem]
  have phase : BitVec.ofNat 16 0 = x.phase := fresh.phase.symm
  rw [onCourse, rem, phase, ← fresh.stage]

/-- The generator after `m` passes, while its pattern lasts and once it has ended. -/
theorem pulseRun_eq (m : Nat) :
    (¬ EndsBy x (m / x.total.toNat) →
      ∃ out, (pulseRun m x).1 = onCourse x (m / x.total.toNat) (m % x.total.toNat) out) ∧
    (EndsBy x (m / x.total.toNat) → (pulseRun m x).1 = ended x) := by
  induction m with
  | zero =>
    rw [Nat.zero_div, Nat.zero_mod]
    exact ⟨fun _ => ⟨x.out, fresh.onCourse_zero.symm⟩, fun ends => absurd ends fresh.not_endsBy_zero⟩
  | succ m ih =>
    obtain ⟨lasts, done⟩ := ih
    by_cases before : EndsBy x (m / x.total.toNat)
    · refine ⟨fun goesOn => absurd (before.mono (Nat.div_le_div_right m.le_succ)) goesOn, fun _ => ?_⟩
      rw [pulseRun, done before]
      exact congrArg Prod.fst (pulseStep_of_resting (x := ended x) (.inl nofun))
    · obtain ⟨out, position⟩ := lasts before
      obtain ⟨ends, goesOn⟩ := pulseStep_onCourse fresh.running fresh.pattern fresh.shape before out
      rw [pulseRun, position]
      exact ⟨fun later => (goesOn later).imp fun _ step => congrArg Prod.fst step,
        fun last => congrArg Prod.fst (ends last)⟩

/-- What pass `m + 1` emits: a drive on a change of stage, or the drive to rest level at the end. -/
theorem records_pulseStep (unended : ¬ EndsBy x (m / x.total.toNat)) :
    (EndsBy x ((m + 1) / x.total.toNat) → (pulseStep (pulseRun m x).1).2 = [.pinSet x.pin x.inv]) ∧
    (¬ EndsBy x ((m + 1) / x.total.toNat) →
      (pulseStep (pulseRun m x).1).2 = stageChange x (m % x.total.toNat) ((m + 1) % x.total.toNat)) := by
  obtain ⟨out, before⟩ := (fresh.pulseRun_eq m).1 unended
  obtain ⟨ends, goesOn⟩ := pulseStep_onCourse fresh.running fresh.pattern fresh.shape unended out
  rw [before]
  refine ⟨fun last => congrArg Prod.snd (ends last), fun later => ?_⟩
  obtain ⟨out', step⟩ := goesOn later
  exact congrArg Prod.snd step

theorem unended_of_running (running : (pulseRun m x).1.state = .running) : ¬ EndsBy x (m / x.total.toNat) := by
  intro ends
  rw [(fresh.pulseRun_eq m).2 ends] at running
  cases running

section
variable (mode : x.mode = .oneshot)
include mode

theorem total_eq : x.total.toNat = x.head.toNat + x.act.toNat := by
  obtain ⟨-, -, -, total⟩ := fresh.shape ⟨by simp [fresh.running], fresh.pattern⟩
  exact total mode

/-- A oneshot has no tail. -/
theorem stageAt_oneshot (early : m < x.total.toNat) :
    stageAt x m = if m < x.head.toNat then .head else .active := by
  rw [fresh.total_eq mode] at early
  rw [stageAt, if_pos early]

/-- A oneshot that starts in its active stage or has none emits nothing before its end; any other is driven to pulse
level when its active stage begins. -/
theorem records_oneshot (early : m < x.total.toNat) :
    (pulseRun m x).2 = if x.stage = .head ∧ stageAt x m = .active then [.pinSet x.pin (!x.inv)] else [] := by
  induction m with
  | zero =>
    rw [← fresh.stage]
    exact (if_neg fun ⟨head, active⟩ => nomatch head.symm.trans active).symm
  | succ m ih =>
    have before : m < x.total.toNat := Nat.lt_of_succ_lt early
    obtain ⟨-, emitted⟩ := fresh.records_pulseStep (not_endsBy_of_lt_total mode before)
    rw [pulseRun, ih before, emitted (not_endsBy_of_lt_total mode early), Nat.mod_eq_of_lt before,
      Nat.mod_eq_of_lt early, stageChange, fresh.stage, fresh.stageAt_oneshot mode early,
      fresh.stageAt_oneshot mode before, fresh.stageAt_oneshot mode fresh.total_pos]
    rcases Nat.lt_trichotomy (m + 1) x.head.toNat with inHead | begins | inActive
    · simp [inHead, Nat.lt_of_succ_lt inHead]
    · simp [← begins]
    · simp [inActive.not_gt, (Nat.le_of_lt_succ inActive).not_gt]

/-- The end of a oneshot is its last drive (R453). -/
theorem records_oneshot_ended (late : x.total.toNat ≤ m) :
    (pulseRun m x).2 =
      (if x.stage = .head ∧ x.act ≠ 0 then [.pinSet x.pin (!x.inv)] else []) ++ [.pinSet x.pin x.inv] := by
  have ends {k : Nat} (h : x.total.toNat ≤ k) : EndsBy x (k / x.total.toNat) :=
    (endsBy_oneshot mode).2 (Nat.div_pos h fresh.total_pos)
  induction m, late using Nat.le_induction with
  | base =>
    obtain ⟨k, last⟩ := Nat.exists_eq_succ_of_ne_zero fresh.total_pos.ne'
    have before : k < x.total.toNat := last ▸ k.lt_succ_self
    obtain ⟨emitted, -⟩ := fresh.records_pulseStep (not_endsBy_of_lt_total mode before)
    have active : stageAt x k = .active ↔ x.act ≠ 0 := by
      have := fresh.total_eq mode
      rw [fresh.stageAt_oneshot mode before, ← toNat_ne_zero_iff]
      split <;> simp <;> omega
    rw [last, pulseRun, fresh.records_oneshot mode before, emitted (ends last.le)]
    simp only [active]
  | succ m late ih =>
    obtain ⟨-, done⟩ := fresh.pulseRun_eq m
    rw [pulseRun, ih, done (ends late), pulseStep_of_resting (x := ended x) (.inl nofun), List.append_nil]

end
end Fresh
end

/-- Settles O58: where the generator stands after `m` passes, in each mode, and what the next pass emits. -/
theorem patternLaws : Obligations.PatternLaws := by
  intro x m running pattern shape phase rem at_ stage total r
  have fresh : Fresh x := ⟨running, pattern, shape, phase, rem, stage⟩
  obtain ⟨lasts, done⟩ := fresh.pulseRun_eq m
  refine ⟨fun mode early => ?_, fun mode late => ?_, fun mode early => ?_, fun mode late => ?_, fun mode => ?_,
    fun before after => ?_⟩
  · obtain ⟨out, position⟩ := lasts (not_endsBy_of_lt_total mode early)
    rw [Nat.mod_eq_of_lt early] at position
    simp only [r, position]
    exact ⟨running, rfl, rfl, fresh.records_oneshot mode early⟩
  · have ends : EndsBy x (m / total) := (endsBy_oneshot mode).2 (Nat.div_pos late fresh.total_pos)
    simp only [r, done ends]
    exact ⟨rfl, rfl, rfl, fresh.records_oneshot_ended mode late⟩
  · obtain ⟨out, position⟩ := lasts fun ends => early.not_ge
      ((Nat.le_div_iff_mul_le fresh.total_pos).1 ((endsBy_repeating mode).1 ends))
    simp only [r, position]
    exact ⟨running, rfl, cyclesLeft_of_repeating mode _, rfl⟩
  · have ends : EndsBy x (m / total) :=
      (endsBy_repeating mode).2 ((Nat.le_div_iff_mul_le fresh.total_pos).2 late)
    simp only [r, done ends]
    exact ⟨rfl, if_pos mode, rfl, rfl⟩
  · obtain ⟨out, position⟩ := lasts (not_endsBy_continuous mode)
    simp only [r, position]
    exact ⟨running, rfl, rfl⟩
  · obtain ⟨-, emitted⟩ := fresh.records_pulseStep (fresh.unended_of_running before)
    exact emitted (fresh.unended_of_running after)

end Sys2Proof.Machine

namespace Sys2Proof.Machine

/-! ### The generator commands (R450, R454..R466) -/

section
variable {s : State} {j : Nat} {x : Pulse} {mode : PulseMode}

theorem onPulse_of_absent (absent : s.pulses.length ≤ j) (k : Pulse → State) :
    onPulse j s k = raise .invalidArgument s := onPulse_of_none (List.getElem?_eq_none absent) k

theorem onPulse_of_lt (inBank : j < s.pulses.length) (k : Pulse → State) : onPulse j s k = k s.pulses[j] :=
  onPulse_of_some (List.getElem?_eq_getElem inBank) k

/-- GCheck and the operand checks of a create raise the same error, so their order cannot be told apart. -/
theorem onPulse_of_bad_operands {k : Pulse → State} (bad : ∀ x, k x = raise .invalidArgument s) :
    onPulse j s k = raise .invalidArgument s :=
  onPulse_induct (P := fun t => t = raise .invalidArgument s) rfl fun x _ => bad x

/-- The second id of PDS_SYNC is checked with the same error as the first (R461). -/
theorem onLivePulse_of_raising {k : Pulse → State} (bad : ∀ x, k x = raise .invalidArgument s) :
    onLivePulse j s k = raise .invalidArgument s :=
  onLivePulse_induct (P := fun t => t = raise .invalidArgument s) rfl fun x _ _ => bad x

/-- Without a drive OUT stays as it is. -/
theorem finishPulse_silent (j : Nat) (x : Pulse) (s : State) :
    finishPulse j (x, []) s = finish .ok (setPulse j x s) := by
  rw [finishPulse, emit, List.append_nil]

theorem onLivePulse_finishes {f : Pulse → Pulse × List Record} {r : Pulse × List Record}
    (hx : s.pulses[j]? = some x) (live : x.state ≠ .deleted) (result : f x = r) :
    (onLivePulse j s fun x => finishPulse j (f x) s) = finishPulse j r s := by
  rw [onLivePulse_of_live hx live, result]

/-- A create of a pattern drives the pin to the level of the first stage, whatever the slot held before. -/
theorem createPattern_eq {h a t c p : Half} {stage : Stage} (old : Pulse)
    (first : stageOf (patternPulse mode h a t c p old.out s) p = stage) :
    createPattern j mode h a t c p old s =
      finishPulse j
        ({ patternPulse mode h a t c p false s with stage := stage, out := xor (stage == .active) (bit8 s.arg0) },
          [.pinSet (lowByte s.arg0) (xor (stage == .active) (bit8 s.arg0))]) s := by
  subst first
  simp only [createPattern, drive, progLevel_eq]
  rfl

/-- The creation offset of PDS_CREATE_PWM (R460) as a division. -/
theorem pwmOffset_eq (sh t : Half) : pwmOffset sh t = BitVec.ofNat 16 (sh.toNat * t.toNat / 65536) := by
  rw [pwmOffset, Nat.shiftRight_eq_div_pow]

theorem stageOf_of_no_head (head : x.head = 0) (p : Half) :
    stageOf x p = if p.toNat < x.act.toNat then Stage.active else .tail := by
  simp [stageOf, head]

end

/-- Settles O54: GCheck, the operand checks, then the slot and the drive to its first level. -/
theorem pulseCreate : Obligations.PulseCreate := by
  intro s g pin inv h a t c still pattern first p0
  refine ⟨fun absent => ?absent, fun bad => ?_, fun bad => ?_, fun bad => ?_, fun bad => ?_, fun inBank => ?created⟩
  case absent =>
    have refused := onPulse_of_absent absent
    simp only [List.forall_mem_cons]
    exact ⟨congrArg Host.Outcome.next (refused _), congrArg Host.Outcome.next (refused _),
      congrArg Host.Outcome.next (refused _), congrArg Host.Outcome.next (refused _),
      congrArg Host.Outcome.next (refused _), congrArg Host.Outcome.next (refused _),
      congrArg Host.Outcome.next (refused _), nofun⟩
  · exact congrArg Host.Outcome.next (onPulse_of_bad_operands fun _ => if_pos bad)
  · refine congrArg Host.Outcome.next (onPulse_of_bad_operands fun _ => ?_)
    rw [← or_assoc] at bad
    rcases bad with total | cycles
    · exact if_pos total
    · exact (ite_congr rfl (fun _ => rfl) fun _ => if_pos cycles).trans (ite_self _)
  · exact congrArg Host.Outcome.next (onPulse_of_bad_operands fun _ => if_pos bad)
  · exact congrArg Host.Outcome.next (onPulse_of_bad_operands fun _ => if_pos bad)
  case created =>
    have body := onPulse_of_lt inBank
    refine ⟨congrArg Host.Outcome.next ((body _).trans (congrArg (finishPulse g.toNat · s) (drive_false _))),
      congrArg Host.Outcome.next ((body _).trans (congrArg (finishPulse g.toNat · s) (drive_true _))),
      congrArg Host.Outcome.next ((body _).trans (finishPulse_silent ..)), fun nonempty fits => ?oneshot,
      fun nonzero fits cycles => ?repeating, fun nonzero fits => ?continuous, fun nonzero fits => ?pwm⟩
    case oneshot =>
      refine congrArg Host.Outcome.next ((body _).trans ((if_neg ?_).trans (createPattern_eq _ (stageOf_zero _))))
      exact not_or_intro nonempty.ne' fits.not_gt
    case repeating =>
      exact congrArg Host.Outcome.next ((body _).trans ((if_neg (not_or_intro nonzero fits.not_gt)).trans
        ((if_neg cycles).trans (createPattern_eq _ (stageOf_zero _)))))
    case continuous =>
      exact congrArg Host.Outcome.next ((body _).trans ((if_neg (not_or_intro nonzero fits.not_gt)).trans
        (createPattern_eq _ (stageOf_zero _))))
    case pwm =>
      intro st
      refine congrArg Host.Outcome.next ((body _).trans ((if_neg (not_or_intro nonzero fits.not_gt)).trans ?_))
      rw [pwmOffset_eq]
      exact createPattern_eq _ (stageOf_of_no_head rfl p0)

section
variable {x : Pulse}

theorem setInvert_of_pattern (running : x.state = .running) (pattern : isPattern x = true) (inv : Bool) :
    setInvert x inv = drive { x with inv := inv } (progLevel x.stage) := by
  rw [setInvert, if_pos running]
  exact if_pos pattern

theorem setInvert_of_static (running : x.state = .running) (static : isPattern x = false) (notIdle : x.mode ≠ .idle)
    (inv : Bool) : setInvert x inv = drive { x with inv := inv } (staticLevel x) := by
  rw [setInvert, if_pos running, static]
  exact if_neg notIdle

/-- No drive on a change of the invert flag of a completed or idle generator (R466). -/
theorem setInvert_of_undriven (undriven : x.state = .completed ∨ x.mode = .idle) (inv : Bool) :
    setInvert x inv = ({ x with inv := inv }, []) := by
  rcases undriven with completed | idle
  · exact if_neg (by simp [completed])
  · simp only [setInvert, isPattern, idle, if_true, if_false, Bool.false_eq_true, ite_self]

end

/-- Settles O55: GLive, which PDS_DELETE alone does not take, then the command on the live generator. -/
theorem pulseControl : Obligations.PulseControl := by
  intro s g src inv dead
  refine ⟨fun gone => ?refused, fun absent => ?_, fun x hx => ⟨?_, fun live => ?live⟩⟩
  case refused =>
    have refused := onLivePulse_of_refused gone
    simp only [List.forall_mem_cons]
    exact ⟨congrArg Host.Outcome.next (refused _), congrArg Host.Outcome.next (refused _),
      congrArg Host.Outcome.next (refused _), congrArg Host.Outcome.next (refused _),
      congrArg Host.Outcome.next (onLivePulse_of_raising fun _ => refused _), congrArg Host.Outcome.next (refused _),
      nofun⟩
  · exact congrArg Host.Outcome.next (onPulse_of_absent absent _)
  · exact congrArg Host.Outcome.next ((onPulse_of_some hx _).trans (finishPulse_silent ..))
  case live =>
    have body := onLivePulse_of_live hx live
    have ends {f : Pulse → Pulse × List Record} {r : Pulse × List Record} (result : f x = r) :=
      onLivePulse_finishes hx live result
    refine ⟨congrArg Host.Outcome.next ((body _).trans (finishPulse_silent ..)), fun pattern => ?_,
      fun static notIdle => ?_, fun idle => ?_, fun running pattern => ?_, fun running static notIdle => ?_,
      fun undriven => ?_,
      fun y hy liveY => ⟨fun bad => ?unsynced, fun pattern patternY running runningY => ?synced⟩⟩
    · have result := restart_of_pattern pattern
      rw [progLevel_eq, stageOf_zero] at result
      exact congrArg Host.Outcome.next (ends (f := restart) result)
    · exact congrArg Host.Outcome.next (ends (f := restart) (restart_of_static static notIdle))
    · exact congrArg Host.Outcome.next
        ((ends (f := restart) (restart_of_idle idle)).trans (finishPulse_silent ..))
    · have result := setInvert_of_pattern running pattern inv
      rw [progLevel_eq] at result
      exact congrArg Host.Outcome.next (ends (f := (setInvert · inv)) result)
    · exact congrArg Host.Outcome.next
        (ends (f := (setInvert · inv)) (setInvert_of_static running static notIdle inv))
    · exact congrArg Host.Outcome.next
        ((ends (f := (setInvert · inv)) (setInvert_of_undriven undriven inv)).trans (finishPulse_silent ..))
    case unsynced =>
      refine congrArg Host.Outcome.next ((body _).trans ((onLivePulse_of_live hy liveY _).trans (if_neg ?_)))
      rw [Bool.and_eq_true, canSync_iff, canSync_iff]
      rintro ⟨⟨running, pattern⟩, runningY, patternY⟩
      simp [running, pattern, runningY, patternY] at bad
    case synced =>
      refine congrArg Host.Outcome.next ((body _).trans ((onLivePulse_of_live hy liveY _).trans ((if_pos ?_).trans ?_)))
      · rw [Bool.and_eq_true, canSync_iff, canSync_iff]
        exact ⟨⟨running, pattern⟩, runningY, patternY⟩
      · rw [syncCore_eq]
        rfl

end Sys2Proof.Machine

/-! ## The dispatcher (46_dispatcher.md): the TICK interrupt, DSP_CONSUME and the starts, the clock -/

namespace Sys2Proof.Machine

/-! ### The TICK interrupt (R520)

TICK is a register that no sub-step of an executing command reads or writes. -/

/-- Settles O8: a TICK event is the TickIRQ step. -/
theorem tickInterrupt : Obligations.TickInterrupt :=
  fun _ _ hinput => step_of_input hinput

theorem runPass_tickIrq (p : Pass) (s : State) : runPass p (tickIrq s) = tickIrq (runPass p s) :=
  calc runPass p (tickIrq s)
    _ = (tickIrq s).withRegisters (runPass p s) := runPass_withRegisters (tickIrq s) p s
    _ = tickIrq (s.withRegisters (runPass p s)) := rfl
    _ = tickIrq (runPass p s) := by rw [withRegisters_runPass]

theorem queueGet_tickIrq (q : Nat) (s : State) :
    queueGet q (tickIrq s) = (queueGet q s).map fun taken => (taken.1, tickIrq taken.2) := by
  have registers : queueGet q (tickIrq s) = _ := queueGet_withRegisters (tickIrq s) q s
  rw [registers]
  refine Option.map_congr fun taken htaken => ?_
  have frame := queueGet_state htaken
  rw [frame]
  rfl

theorem setLerr_tickIrq (q : Nat) (c : ResultCode) (s : State) : setLerr q c (tickIrq s) = tickIrq (setLerr q c s) := by
  cases hx : s.queues[q]? with
  | none => simp only [setLerr, tickIrq_queues, hx]
  | some x => rw [setLerr_of_queue hx, setLerr_of_queue (s := tickIrq s) hx]; rfl

theorem pollWriteSync_tickIrq (p b : Byte) (s : State) :
    pollWriteSync p b (tickIrq s) = tickIrq (pollWriteSync p b s) := by
  have drawn : drawTx p (tickIrq s) = ((drawTx p s).1, tickIrq (drawTx p s).2) := rfl
  simp only [pollWriteSync, drawn]
  split <;> rfl

theorem pollReadSync_tickIrq (p : Byte) (s : State) : pollReadSync p (tickIrq s) = tickIrq (pollReadSync p s) := by
  simp only [pollReadSync, queueGet_tickIrq]
  cases queueGet (rxQueue p.toNat) s with
  | none => rfl
  | some taken => exact congrArg (finishData (zext taken.1)) (setLerr_tickIrq ..)

theorem passSubstep_tickIrq (p : Pass) (s : State) : passSubstep p (tickIrq s) = tickIrq (passSubstep p s) := by
  rw [passSubstep, runPass_tickIrq]
  rfl

theorem runSubstep_tickIrq (n : Word) (left : Nat) (p : Pass) (s : State) :
    runSubstep n left p (tickIrq s) = tickIrq (runSubstep n left p s) := by
  rw [runSubstep, runPass_tickIrq]
  rfl

/-- Settles O12, by the position of the executing command: a pass sub-step, a finish or a poll. -/
theorem ticksDuringACommand : Obligations.TicksDuringACommand := by
  intro s
  unfold advance
  rw [tickIrq_active]
  split
  · rfl
  · exact passSubstep_tickIrq ..
  · rfl
  · rfl
  · exact runSubstep_tickIrq ..
  · exact pollWriteSync_tickIrq ..
  · exact pollReadSync_tickIrq ..

/-! ### NOP, DSP_CONSUME and the starts of DSP_PASS and DSP_RUN (R522, R524, R525, R526) -/

theorem execNop_eq (s : State) : exec .nop s = .next (finish .ok s) := rfl

theorem execDspConsume_eq (s : State) :
    exec .dspConsume s = .next (finishData (pending s) { s with consumed := s.tick }) := rfl

/-- Settles O22: each command is one atomic step, and what DSP_CONSUME returns is PENDING. -/
theorem nopAndConsume : Obligations.NopAndConsume :=
  fun s => ⟨execNop_eq s, execDspConsume_eq s⟩

/-- Settles O25: the states from which the sub-steps of the two commands begin. -/
theorem dispatchCommandsStart : Obligations.DispatchCommandsStart :=
  fun s => ⟨execDspPass_eq s, execDspRun_eq s⟩

/-! ### The clock (R530, R531, R532) -/

section
variable {h m sec ms : Nat}

theorem toNat_clkPack (hh : h < 2 ^ 5) (hm : m < 2 ^ 6) (hsec : sec < 2 ^ 6) (hms : ms < 2 ^ 10) :
    (clkPack h m sec ms).toNat = h * 2 ^ 22 + m * 2 ^ 16 + sec * 2 ^ 10 + ms := by
  rw [clkPack_eq h hm hsec hms, BitVec.toNat_ofNat, Nat.mod_eq_of_lt (by omega)]

/-- The fields of a packed clock whose fields fit (R144). -/
theorem fields_clkPack (hh : h < 2 ^ 5) (hm : m < 2 ^ 6) (hsec : sec < 2 ^ 6) (hms : ms < 2 ^ 10) :
    clkHour (clkPack h m sec ms) = h ∧ clkMin (clkPack h m sec ms) = m ∧ clkSec (clkPack h m sec ms) = sec ∧
      clkMs (clkPack h m sec ms) = ms := by
  simp only [clkHour, clkMin, clkSec, clkMs, BitVec.extractLsb'_toNat, toNat_clkPack hh hm hsec hms,
    Nat.shiftRight_eq_div_pow]
  omega

end

/-- The time of day of a packed clock, in milliseconds (R531). -/
def clkTime (w : Word) : Nat := ((clkHour w * 60 + clkMin w) * 60 + clkSec w) * 1000 + clkMs w

section
variable {s t : State}

/-- A CLK_SET that ends Ok has been given a time of the day, from which the clock starts. -/
theorem execClkSet_of_ok (setting : exec .clkSet s = .next t) (ok : t.res = .ok) :
    clkTime s.arg0 < 86400000 ∧ t.clkBase = BitVec.ofNat 32 (clkTime s.arg0) ∧ t.clkRef = t.tick := by
  by_cases outside : 23 < clkHour s.arg0 ∨ 59 < clkMin s.arg0 ∨ 59 < clkSec s.arg0 ∨ 999 < clkMs s.arg0
  · have refused : exec .clkSet s = .next (raise .invalidArgument s) := congrArg Host.Outcome.next (if_pos outside)
    obtain rfl := Host.Outcome.next.inj (refused.symm.trans setting)
    cases ok
  · have accepted : exec .clkSet s = .next (finish .ok _) := congrArg Host.Outcome.next (if_neg outside)
    obtain rfl := Host.Outcome.next.inj (accepted.symm.trans setting)
    refine ⟨?_, rfl, rfl⟩
    unfold clkTime
    omega

/-- The clock counts milliseconds of the day from its setting, below the wrap of TICK (R530). -/
theorem clockMs_of_elapsed {time n : Nat} (inDay : time < 86400000) (hn : n < 2 ^ 32)
    (base : t.clkBase = BitVec.ofNat 32 time) (start : t.clkRef = t.tick) :
    clockMs { t with tick := t.tick + BitVec.ofNat 32 n } = (time + n) % 86400000 := by
  have elapsed : t.tick + BitVec.ofNat 32 n - t.clkRef = BitVec.ofNat 32 n := by rw [start, add_sub_cancel_left]
  have fits : time < 2 ^ 32 := by omega
  simp only [clockMs, elapsed, base, BitVec.toNat_ofNat, Nat.mod_eq_of_lt hn, Nat.mod_eq_of_lt fits]

/-- CLK_GET returns the fields of the time of day (R532). -/
theorem execClkGet_fields (reading : exec .clkGet s = .next t) :
    clkHour t.rdata = clockMs s / 3600000 ∧ clkMin t.rdata = clockMs s / 60000 % 60 ∧
      clkSec t.rdata = clockMs s / 1000 % 60 ∧ clkMs t.rdata = clockMs s % 1000 := by
  obtain rfl := Host.Outcome.next.inj reading
  have inDay : clockMs s < 86400000 := Nat.mod_lt _ (by decide)
  exact fields_clkPack (by omega) (by omega) (by omega) (by omega)

end

/-- Settles O24: the setting is the base of the clock, and the `n` ticks since are all that CLK_GET adds to it. -/
theorem clockRunsFromItsSetting : Obligations.ClockRunsFromItsSetting := by
  intro s t u n hn setting ok reading
  obtain ⟨inDay, base, start⟩ := execClkSet_of_ok setting ok
  have fields := execClkGet_fields reading
  rw [clockMs_of_elapsed inDay hn base start] at fields
  exact fields

end Sys2Proof.Machine

/-! ## Exceptions and reset (60_exceptions.md, 70_reset_and_hazards.md): simultaneous interrupts, the external reset -/

namespace Sys2Proof.Machine

/-! ### The external reset (R620, R621) -/

/-- Settles O13: the event is `resetBlock`, whatever command is executing. -/
theorem externalReset : Obligations.ExternalReset :=
  fun _ _ hinput => step_of_input hinput

/-! ### Stores that do not meet -/

/-- Listings at two different keys commute, whatever the table: each stops at the first entry that is not below its
key. -/
theorem Table.insert_comm {α : Type} {j k : Nat} (other : j ≠ k) (v w : α) (m : List (Nat × α)) :
    Table.insert j v (Table.insert k w m) = Table.insert k w (Table.insert j v m) := by
  wlog lt : j < k generalizing j k v w
  · exact (this other.symm w v (by omega)).symm
  induction m with
  | nil => simp [Table.insert, lt, lt.not_gt, other.symm]
  | cons c t ih =>
    obtain ⟨a, u⟩ := c
    by_cases goesOn : a < j
    · simp [Table.insert, ih, goesOn.not_gt, goesOn.ne', (goesOn.trans lt).not_gt, (goesOn.trans lt).ne']
    · grind [Table.insert]

theorem memWrite_comm {a a' : Nat} (other : a ≠ a') (b b' : Byte) (s : State) :
    memWrite a b (memWrite a' b' s) = memWrite a' b' (memWrite a b s) :=
  congrArg (fun m => { s with qmem := m }) (Table.insert_comm other b b' s.qmem)

theorem setQueue_comm {q q' : Nat} (other : q ≠ q') (x y : Queue) (s : State) :
    setQueue q x (setQueue q' y s) = setQueue q' y (setQueue q x s) :=
  congrArg (fun l => { s with queues := l }) (List.set_comm y x other.symm)

/-! ### What an RX interrupt looks at (R210)

Whether it drops or stores its byte, and the store it makes, depend on port p and on Q[2p] alone. So an interrupt of
another port, which leaves these two as they are, does not change what it does. -/

/-- The states agree on all that the RX interrupt of port `p` reads. -/
def SameForRx (p : Nat) (t s : State) : Prop :=
  t.ports[p]? = s.ports[p]? ∧ t.queues[rxQueue p]? = s.queues[rxQueue p]?

theorem SameForRx.refl (p : Nat) (s : State) : SameForRx p s s := ⟨rfl, rfl⟩

/-- The RX interrupt's store of a byte into the put slot of `x`, which is Q[2p]. -/
def rxStore (p : Nat) (b : Byte) (x : Queue) (s : State) : State :=
  setQueue (rxQueue p) { x with put := nextSlot x.put x.cap, count := x.count + 1 } (memWrite (slotAddr x x.put) b s)

section
variable {s t : State} {p p' : Nat} {b b' : Byte} {x y : Queue}

theorem rxIrq_of_no_port (absent : s.ports[p]? = none) : rxIrq p b s = s := by
  rcases rxIrq_cases p b s with same | ⟨_, _, _, hp, -⟩
  · exact same
  · cases absent.symm.trans hp

theorem rxIrq_of_no_queue (absent : s.queues[rxQueue p]? = none) : rxIrq p b s = s := by
  rcases rxIrq_cases p b s with same | ⟨_, _, _, -, hx, -⟩
  · exact same
  · cases absent.symm.trans hx

/-- Over all states that agree on port p and Q[2p], the RX interrupt drops its byte in each, or makes the same store in
each. -/
theorem rxIrq_uniform (p : Nat) (b : Byte) (s : State) :
    (∀ t, SameForRx p t s → rxIrq p b t = t) ∨
    ∃ x, s.queues[rxQueue p]? = some x ∧ x.cap ≠ 0 ∧ ∀ t, SameForRx p t s → rxIrq p b t = rxStore p b x t := by
  cases hp : s.ports[p]? with
  | none => exact .inl fun t ⟨port, _⟩ => rxIrq_of_no_port (port.trans hp)
  | some port =>
    cases hx : s.queues[rxQueue p]? with
    | none => exact .inl fun t ⟨_, queue⟩ => rxIrq_of_no_queue (queue.trans hx)
    | some x =>
      by_cases zero : x.cap = 0
      · exact .inl fun t ⟨_, queue⟩ => rxIrq_of_uninitialised (queue.trans hx) zero
      by_cases full : x.count = x.cap
      · exact .inl fun t ⟨_, queue⟩ => rxIrq_of_full (queue.trans hx) full
      refine .inr ⟨x, rfl, zero, fun t ⟨port, queue⟩ => ?_⟩
      have inBank := (List.getElem?_eq_some_iff.1 (port.trans hp)).1
      exact rxIrq_of_space inBank (queue.trans hx) zero full

/-- The RX interrupt of another port leaves port p and Q[2p] as they are. -/
theorem sameForRx_rxIrq (other : p' ≠ p) (b' : Byte) (s : State) : SameForRx p (rxIrq p' b' s) s := by
  rcases rxIrq_eq_or p' b' s with same | ⟨x, -, stored⟩
  · rw [same]
    exact .refl p s
  · rw [stored]
    exact ⟨rfl, List.getElem?_set_ne (rxQueue_ne_rxQueue other.symm)⟩

theorem rxStore_comm (other : p ≠ p') (apart : slotAddr x x.put ≠ slotAddr y y.put) (s : State) :
    rxStore p b x (rxStore p' b' y s) = rxStore p' b' y (rxStore p b x s) := by
  calc rxStore p b x (rxStore p' b' y s)
    _ = setQueue (rxQueue p) _ (setQueue (rxQueue p') _
          (memWrite (slotAddr x x.put) b (memWrite (slotAddr y y.put) b' s))) := rfl
    _ = setQueue (rxQueue p') _ (setQueue (rxQueue p) _
          (memWrite (slotAddr y y.put) b' (memWrite (slotAddr x x.put) b s))) := by
      rw [setQueue_comm (rxQueue_ne_rxQueue other.symm), memWrite_comm apart]
    _ = rxStore p' b' y (rxStore p b x s) := rfl

/-- The put slots of two initialised queues whose windows do not overlap are different bytes (R102). -/
theorem QueueInv.slotAddr_put_ne {size : Nat} (hx : QueueInv size x) (hy : QueueInv size y)
    (initialisedX : x.cap ≠ 0) (initialisedY : y.cap ≠ 0)
    (apart : x.base.toNat + x.cap.toNat ≤ y.base.toNat ∨ y.base.toNat + y.cap.toNat ≤ x.base.toNat) :
    slotAddr x x.put ≠ slotAddr y y.put := by
  obtain ⟨-, putX, -⟩ := hx.2 initialisedX
  obtain ⟨-, putY, -⟩ := hy.2 initialisedY
  unfold slotAddr
  omega

/-! ### Interrupts in either order (R583) -/

theorem rxIrq_tickIrq (p : Nat) (b : Byte) (s : State) : rxIrq p b (tickIrq s) = tickIrq (rxIrq p b s) := by
  have same : SameForRx p (tickIrq s) s := ⟨rfl, rfl⟩
  rcases rxIrq_uniform p b s with drops | ⟨x, -, -, stores⟩
  · rw [drops _ same, drops _ (.refl p s)]
  · rw [stores _ same, stores _ (.refl p s)]
    rfl

theorem rxIrq_comm (inv : s.Inv) (other : p ≠ p')
    (apart : ∀ x y, s.queues[rxQueue p]? = some x → s.queues[rxQueue p']? = some y →
      x.base.toNat + x.cap.toNat ≤ y.base.toNat ∨ y.base.toNat + y.cap.toNat ≤ x.base.toNat) :
    rxIrq p b (rxIrq p' b' s) = rxIrq p' b' (rxIrq p b s) := by
  have first := SameForRx.refl p s
  have first' := SameForRx.refl p' s
  have second := sameForRx_rxIrq other.symm b' s
  have second' := sameForRx_rxIrq other b s
  rcases rxIrq_uniform p b s with drops | ⟨x, hx, initialisedX, stores⟩
  · rw [drops _ second, drops _ first]
  · rcases rxIrq_uniform p' b' s with drops' | ⟨y, hy, initialisedY, stores'⟩
    · rw [drops' _ second', drops' _ first']
    · rw [stores _ second, stores' _ first', stores' _ second', stores _ first]
      have invX := inv.queues x (List.mem_of_getElem? hx)
      have invY := inv.queues y (List.mem_of_getElem? hy)
      exact rxStore_comm other (invX.slotAddr_put_ne invY initialisedX initialisedY (apart x y hx hy)) s

end

/-- The event `i` of a run is the atomic step `f`, which neither reads nor writes the inputs still to come. -/
structure IsInterrupt (i : Input) (f : State → State) : Prop where
  taken : ∀ s₀ s, takeInput i s₀ s = .next (f s)
  withInputs : ∀ (s : State) (l : List Input), f { s with inputs := l } = { f s with inputs := l }

theorem isInterrupt_tick : IsInterrupt .tick tickIrq := ⟨fun _ _ => rfl, fun _ _ => rfl⟩

theorem isInterrupt_rx (p b : Byte) : IsInterrupt (.rx p b) (rxIrq p.toNat b) where
  taken _ _ := rfl
  withInputs s l := by
    have same : SameForRx p.toNat { s with inputs := l } s := ⟨rfl, rfl⟩
    rcases rxIrq_uniform p.toNat b s with drops | ⟨x, -, -, stores⟩
    · rw [drops _ same, drops _ (.refl _ s)]
    · rw [stores _ same, stores _ (.refl _ s)]
      rfl

section
variable {i j : Input} {f g : State → State}

theorem IsInterrupt.step_eq (hi : IsInterrupt i f) (s : State) (rest : List Input) :
    step { s with inputs := i :: rest } = .next { f s with inputs := rest } :=
  calc step { s with inputs := i :: rest }
    _ = .next (f { s with inputs := rest }) := (step_of_input rfl).trans (hi.taken _ _)
    _ = .next { f s with inputs := rest } := congrArg Host.Outcome.next (hi.withInputs s rest)

theorem IsInterrupt.run_two (hi : IsInterrupt i f) (hj : IsInterrupt j g) (s : State) :
    Sys2Proof.core.run 2 { s with inputs := [i, j] } = .next { g (f s) with inputs := [] } := by
  simp only [Host.Core.run, Sys2Proof.core, hi.step_eq, hj.step_eq]

/-- Two interrupts whose steps commute may be taken in either order. -/
theorem IsInterrupt.run_comm (hi : IsInterrupt i f) (hj : IsInterrupt j g) {s : State} (comm : g (f s) = f (g s)) :
    Sys2Proof.core.run 2 { s with inputs := [i, j] } = Sys2Proof.core.run 2 { s with inputs := [j, i] } := by
  rw [hi.run_two hj, hj.run_two hi, comm]

end

/-- Settles O11: a TICK touches only TICK, and RX events of two ports touch different queues and different bytes. -/
theorem interruptsCommute : Obligations.InterruptsCommute := by
  intro s p p' b b' inv
  refine ⟨isInterrupt_tick.run_comm (isInterrupt_rx p b) (rxIrq_tickIrq ..), fun other apart => ?_⟩
  have otherPort : p.toNat ≠ p'.toNat := mt BitVec.eq_of_toNat_eq other
  exact (isInterrupt_rx p b).run_comm (isInterrupt_rx p' b') (rxIrq_comm inv otherPort apart).symm

end Sys2Proof.Machine
